-- ==== Sys2Proof/Word.lean ====
section
/-! DEFINITION. The word types of TLVFE (00_scope.md R12: all values are unsigned, bit 0 is the least significant). -/

namespace Sys2Proof

/-- A byte of a frame, a record or a buffer (R12: "A byte is 8 bits"). -/
abbrev Byte := BitVec 8

/-- A channel register: `THROTTLE`, `ROLL`, `AUX1`, `AUX2` (R21). -/
abbrev Chan := BitVec 16

/-- A 32-bit operand, data word of a response, or gain pattern (R22, R110, R113). -/
abbrev Word32 := BitVec 32

/-- A 48-bit command word (R110). -/
abbrev Command := BitVec 48

end Sys2Proof
end

