-- ==== Sys2Proof/Config.lean ====
section
/-! DEFINITION. The constants the spec fixes (00_scope.md R8, R9) and the free values it leaves open
(93_implementation_defined.md U5, U6). -/

namespace Sys2Proof.Config

/-- `STX`, the header byte of every frame (R8). -/
@[simp] abbrev stx : Byte := 0x02
/-- `FT_RC`, the frame type RC/input (R8, R98). -/
@[simp] abbrev ftRc : Byte := 0x01
/-- `FT_CFG`, the frame type Config (R8, R98). -/
@[simp] abbrev ftCfg : Byte := 0x02
/-- `ID_ROLL` (R8). -/
@[simp] abbrev idRoll : Byte := 0
/-- `ID_THROTTLE` (R8). -/
@[simp] abbrev idThrottle : Byte := 1
/-- `ID_AUX1` (R8). -/
@[simp] abbrev idAux1 : Byte := 3
/-- `ID_AUX2` (R8). -/
@[simp] abbrev idAux2 : Byte := 4
/-- `ID_TIMESTAMP` (R8). -/
@[simp] abbrev idTimestamp : Byte := 100
/-- `ID_P` (R8). -/
@[simp] abbrev idP : Byte := 1
/-- `ID_I` (R8). -/
@[simp] abbrev idI : Byte := 2
/-- `ID_D` (R8). -/
@[simp] abbrev idD : Byte := 3
/-- `NEUTRAL`, the neutral value of throttle and roll (R8). -/
@[simp] abbrev neutral : Nat := 1500
/-- `AUX_LOW`, the "off" value of aux1 and aux2 (R8). -/
@[simp] abbrev auxLow : Chan := 1000
/-- `AUX_HIGH`, the "on" value of aux1 and aux2 (R8). -/
@[simp] abbrev auxHigh : Chan := 2000
/-- `SPEED_MAX`, the upper bound of `speedLimit` (R8). -/
@[simp] abbrev speedMax : Nat := 500
/-- `TICK_PERIOD_MS`, the number of 1 ms pulses in one tick period (R8, R226; log 15). -/
@[simp] abbrev tickPeriodMs : Nat := 50
/-- The largest value of the write cursor after an append: one byte of the 256-byte buffer
(`EBUF_SIZE` = `MAX_FRAME`) is kept for the checksum (R9, R131). -/
@[simp] abbrev wcurMax : Nat := 255
/-- `RXBUF_SIZE`, the size of the receive buffer (R9, R31). -/
@[simp] abbrev rxbufSize : Nat := 258
/-- The value `RXLEN` saturates at for a longer message (R31). -/
@[simp] abbrev rxLenMax : Nat := 259
/-- `HDR_SIZE`, the fixed header size (R9, R154). -/
@[simp] abbrev hdrSize : Nat := 3
/-- `MIN_FRAME`, the shortest acceptable frame (R9, R152). -/
@[simp] abbrev minFrame : Nat := 4

/-- DESIGN CHOICE (log 5): a byte of `EB` that no operation has written is unspecified (R30, U5), so it
is a free value: nothing can be proved of it. No operation reads one in a state that a run reaches. -/
opaque ebResidue : Nat → Byte

/-- DESIGN CHOICE (log 5, log 6): a byte of `RX` that the last message did not write is unspecified
(R31, U6), so it is a free value. No operation reads one in a state that a run reaches. -/
opaque rxResidue : Nat → Byte

end Sys2Proof.Config
end

