-- ==== Sys2Proof/Machine/Operands.lean ====
section
/-! DEFINITION. The operand forms of the spec: fields of a command word (30_encoding.md R110), little-endian
values, records and frames (00_scope.md R13; 30_encoding.md R91 to R97; 42_packet_builders.md R180), and
channel deflections (43_input_state_machine.md R190 to R193). -/

namespace Sys2Proof.Machine

/-! ### Command-word fields (R110) -/

/-- `W = (op << 40) | (a << 32) | v` (R110). -/
def commandWord (op a : Byte) (v : Word32) : Command :=
  (op.setWidth 48 <<< 40) ||| (a.setWidth 48 <<< 32) ||| v.setWidth 48

/-- `W[47:40]`, the operation code (R110). -/
def opField (w : Command) : Byte := w.extractLsb' 40 8

/-- `W[39:32]`, the 8-bit operand (R110). -/
def aField (w : Command) : Byte := w.extractLsb' 32 8

/-- `W[31:0]`, the 32-bit operand (R110). -/
def vField (w : Command) : Word32 := w.extractLsb' 0 32

/-- Field `a` of `MSPULSE` and `SENDCFG`: bit 32 of the word is `tx_ready`, bits 39:33 are 0 (R111, R114). -/
def txReadyField (txReady : Bool) : Byte := if txReady then 1 else 0

/-! ### Byte sequences (R13) -/

/-- `LE_n(v)`: the `n`-byte little-endian sequence, byte `k` being `v[8k+7:8k]` (R13, R63). -/
def leBytes (n : Nat) (v : Word32) : List Byte :=
  (List.range n).map fun k => v.extractLsb' (8 * k) 8

/-- The sum over `k` of `s[k] << (8k)`, unbounded (R13). -/
def leNat : List Byte → Nat
  | [] => 0
  | b :: bs => b.toNat + 256 * leNat bs

/-- `LEval(s)`, zero-extended to 32 bits (R13, R64). -/
def leVal (bytes : List Byte) : Word32 := BitVec.ofNat 32 (leNat bytes)

/-- `XOR(s)`, the exclusive or of all bytes, `0x00` for the empty sequence (R13, R92). -/
def xorBytes (bytes : List Byte) : Byte := bytes.foldr (· ^^^ ·) 0

/-- `s[i..j)` of a byte space given by its read function: empty when `j <= i` (R13). -/
def slice (byte : Nat → Byte) (i j : Nat) : List Byte :=
  (List.range (j - i)).map fun k => byte (i + k)

/-- The read function of a byte sequence; an index beyond its end is not a byte of it and reads 0 here. -/
def byteAt (bytes : List Byte) (i : Nat) : Byte := bytes.getD i 0

/-! ### Records and frames (R94 to R97, R180) -/

/-- The smallest of 1, 2, 4 that holds the value (R95). -/
def intSize (v : Word32) : Nat :=
  if v.toNat ≤ 0xFF then 1 else if v.toNat ≤ 0xFFFF then 2 else 4

/-- `irec(id, v)`, an integer record (R95, R180). -/
def irec (id : Byte) (v : Word32) : List Byte :=
  [id, BitVec.ofNat 8 (intSize v)] ++ leBytes (intSize v) v

/-- `frec(id, b)`, a float record: always size 4, the pattern unchanged (R96, R180). -/
def frec (id : Byte) (pattern : Word32) : List Byte := [id, 4] ++ leBytes 4 pattern

/-- `trec(t)`, the timestamp record: id 100, always size 4 (R97, R180). -/
def trec (t : Word32) : List Byte := [Config.idTimestamp, 4] ++ leBytes 4 t

/-- `frame(ty, R)` (R91, R92, R180): header, length of the body, type, records, and the XOR of the
body. R180 defines it for at most 252 bytes of records; up to 254 bytes the length byte still counts the
body, as R91 has it. DESIGN CHOICE (log 20): beyond 254 bytes, where no length byte can count the body, the
length byte is the count mod 256. -/
def frame (type : Byte) (records : List Byte) : List Byte :=
  [Config.stx, BitVec.ofNat 8 (1 + records.length), type] ++ records ++ [xorBytes (type :: records)]

/-- The record area of an RC frame in emission order: throttle, roll, aux1, aux2, timestamp (R100). -/
def rcRecords (th ro a1 a2 : Chan) (t : Word32) : List Byte :=
  irec Config.idThrottle (th.setWidth 32) ++ irec Config.idRoll (ro.setWidth 32) ++
    irec Config.idAux1 (a1.setWidth 32) ++ irec Config.idAux2 (a2.setWidth 32) ++ trec t

/-- `encRC(th, ro, a1, a2, t)` (R100, R180). -/
def encRC (th ro a1 a2 : Chan) (t : Word32) : List Byte := frame Config.ftRc (rcRecords th ro a1 a2 t)

/-- The record area of a Config frame in emission order: P, I, D (R101). -/
def cfgRecords (p i d : Word32) : List Byte :=
  frec Config.idP p ++ frec Config.idI i ++ frec Config.idD d

/-- `encCFG(p, i, d)` (R101, R180). -/
def encCFG (p i d : Word32) : List Byte := frame Config.ftCfg (cfgRecords p i d)

/-- The message in which an inbound record of one size byte and its value bytes stands alone (log 1; log 20 for
a record that no frame can hold). -/
def recordFrame (type id size : Byte) (value : List Byte) : List Byte :=
  frame type (id :: size :: value)

/-! ### Channel deflections (R190 to R193, R212) -/

/-- `NEUTRAL`, 1500, as a channel value. -/
def neutralChan : Chan := BitVec.ofNat 16 Config.neutral

/-- `1500 - S` (R190, R193, R196, R212). -/
def neutralMinus (limit : BitVec 9) : Chan := BitVec.ofNat 16 (Config.neutral - limit.toNat)

/-- `1500 + S` (R191, R192). -/
def neutralPlus (limit : BitVec 9) : Chan := BitVec.ofNat 16 (Config.neutral + limit.toNat)

end Sys2Proof.Machine
end

