-- ==== Sys2Proof/Syntax.lean ====
section
/-! DEFINITION. The operations of TLVFE, one constructor per row of spec/opcode_table.json, and the events
by which the agents present them (00_scope.md R4, R10; 30_encoding.md R110, R114). -/

namespace Sys2Proof

/-- The registers that `RDREG` can name: the assigned numbers of 10_state.md R40. -/
inductive Reg
  | throttle | roll | aux1 | aux2 | mode | speedLimit | ismFlags
  | cfgP | cfgI | cfgD | sched | tickCnt | encStat | rxStat | rxLen | fault
deriving DecidableEq, Repr

/-- The key codes 0 to 6 of `KEYDN` and `KEYUP` (R112). -/
inductive Key
  | thrUp | thrDown | rollLeft | rollRight | aux1 | aux2 | auto
deriving DecidableEq, Repr

/-- The instructions: one constructor per row of the opcode table. The first 38 are the command words
(R111), the next two are wire frames (FRAME rows, R100, R101) and the last eight are records (TLV rows). -/
inductive Instr
  /-- `BEGIN type` (R130). -/
  | beginFrame (type : Byte)
  /-- `APPI id, value` (R132). -/
  | appi (id : Byte) (value : Word32)
  /-- `APPF id, pattern` (R133). -/
  | appf (id : Byte) (pattern : Word32)
  /-- `APPT value` (R134). -/
  | appt (value : Word32)
  /-- `SEAL` (R135). -/
  | sealFrame
  /-- `DHDR` (R154). -/
  | dhdr
  /-- `VCHK` (R156). -/
  | vchk
  /-- `DTLV offset` (R160). -/
  | dtlv (offset : Word32)
  /-- `RXMSG bytes` (R150): its `v` field is the number of the bytes. -/
  | rxmsg (bytes : List Byte)
  /-- `BRC nowMs` (R181). -/
  | brc (nowMs : Word32)
  /-- `BCFG` (R184). -/
  | bcfg
  /-- `KEYDN.THR_UP` (R190). -/
  | keydnThrUp
  /-- `KEYDN.THR_DOWN` (R191). -/
  | keydnThrDown
  /-- `KEYDN.ROLL_LEFT` (R192). -/
  | keydnRollLeft
  /-- `KEYDN.ROLL_RIGHT` (R193). -/
  | keydnRollRight
  /-- `KEYDN.AUX1` (R194). -/
  | keydnAux1
  /-- `KEYDN.AUX2` (R195). -/
  | keydnAux2
  /-- `KEYDN.AUTO` (R196). -/
  | keydnAuto
  /-- `KEYUP.THR_UP` (R200). -/
  | keyupThrUp
  /-- `KEYUP.THR_DOWN` (R201). -/
  | keyupThrDown
  /-- `KEYUP.ROLL_LEFT` (R202). -/
  | keyupRollLeft
  /-- `KEYUP.ROLL_RIGHT` (R203). -/
  | keyupRollRight
  /-- `KEYUP.AUX1` (R204). -/
  | keyupAux1
  /-- `KEYUP.AUX2` (R205). -/
  | keyupAux2
  /-- `KEYUP.AUTO` (R206). -/
  | keyupAuto
  /-- `SETSPD value` (R212). -/
  | setspd (value : Word32)
  /-- `TMRSTART` (R220). -/
  | tmrstart
  /-- `TMRCANCEL` (R221). -/
  | tmrcancel
  /-- `PAUSE` (R222). -/
  | pause
  /-- `RESUME` (R223). -/
  | resume
  /-- `CONNECT` (R224). -/
  | connect
  /-- `DISCONNECT` (R225). -/
  | disconnect
  /-- `MSPULSE now_ms, tx_ready` (R226). -/
  | mspulse (nowMs : Word32) (txReady : Bool)
  /-- `SETP pattern` (R230). -/
  | setp (pattern : Word32)
  /-- `SETI pattern` (R231). -/
  | seti (pattern : Word32)
  /-- `SETD pattern` (R232). -/
  | setd (pattern : Word32)
  /-- `SENDCFG tx_ready` (R233). -/
  | sendcfg (txReady : Bool)
  /-- `RDREG reg` (R250). -/
  | rdreg (reg : Reg)
  /-- FRAME row `RC` (R100; log 1): an inbound wire message `02 | length | 01 | tail`. -/
  | rc (length : Byte) (tail : List Byte)
  /-- FRAME row `CONFIG` (R101; log 1): an inbound wire message `02 | length | 02 | tail`. -/
  | config (length : Byte) (tail : List Byte)
  /-- TLV row `RC.THROTTLE` (R100; log 1): an inbound record `01 | size | value` in an RC frame. -/
  | rcThrottle (size : Byte) (value : List Byte)
  /-- TLV row `RC.ROLL` (R100; log 1): an inbound record `00 | size | value` in an RC frame. -/
  | rcRoll (size : Byte) (value : List Byte)
  /-- TLV row `RC.AUX1` (R100; log 1): an inbound record `03 | size | value` in an RC frame. -/
  | rcAux1 (size : Byte) (value : List Byte)
  /-- TLV row `RC.AUX2` (R100; log 1): an inbound record `04 | size | value` in an RC frame. -/
  | rcAux2 (size : Byte) (value : List Byte)
  /-- TLV row `RC.TIMESTAMP` (R97, R100; log 1): an inbound record `64 | 04 | value` in an RC frame. -/
  | rcTimestamp (value : Word32)
  /-- TLV row `CFG.P` (R101; log 1): an inbound record `01 | 04 | pattern` in a Config frame. -/
  | cfgP (pattern : Word32)
  /-- TLV row `CFG.I` (R101; log 1): an inbound record `02 | 04 | pattern` in a Config frame. -/
  | cfgI (pattern : Word32)
  /-- TLV row `CFG.D` (R101; log 1): an inbound record `03 | 04 | pattern` in a Config frame. -/
  | cfgD (pattern : Word32)
deriving DecidableEq, Repr

/-- What an agent presents to have one operation performed: the raw bits, before decoding.
R114: whether the transport's and time base's events arrive over the command port or over dedicated
strobes "cannot be observed and is not specified". -/
inductive Stimulus
  /-- A command word, with the message bytes delivered beside it (only `RXMSG` has any, R114). -/
  | command (word : Command) (bytes : List Byte)
  /-- A wire frame: a whole inbound binary message, index 0 the byte received first (R13, R62). -/
  | frame (bytes : List Byte)
  /-- A record on the wire: an inbound message that is the frame of type `type` with `bytes` as its
  record area (log 1). -/
  | record (type : Byte) (bytes : List Byte)
deriving DecidableEq, Repr

/-- One entry of the one total order of what reaches the block (R10, R11): the reset input, or a
presented operation. -/
inductive Event
  /-- The reset input (R300). -/
  | reset
  /-- An operation of the host, the transport or the time base. -/
  | op (stimulus : Stimulus)
deriving DecidableEq, Repr

end Sys2Proof
end

