-- ==== Sys2Proof/WellFormed.lean ====
section
/-! DEFINITION. When an instruction has an encoding: its operands fit the fields that carry them. -/

namespace Sys2Proof

/-- A record of variable size has as many value bytes as its size byte says (R94), and some frame can
carry it: the body, one type byte and the record, is at most 255 bytes (R91). -/
def recordFits (size : Byte) (value : List Byte) : Bool :=
  decide (value.length = size.toNat ∧ size.toNat ≤ 252)

/-- A term of `Instr` that some presented bits decode to. `RXMSG`: the count of its bytes fits the
32-bit `v` field (R111, R114). A record of variable size: `recordFits`. Every other operand fills its field exactly. -/
def Instr.wf : Instr → Bool
  | .beginFrame _ => true
  | .appi _ _ => true
  | .appf _ _ => true
  | .appt _ => true
  | .sealFrame => true
  | .dhdr => true
  | .vchk => true
  | .dtlv _ => true
  | .rxmsg bytes => decide (bytes.length < 2 ^ 32)
  | .brc _ => true
  | .bcfg => true
  | .keydnThrUp => true
  | .keydnThrDown => true
  | .keydnRollLeft => true
  | .keydnRollRight => true
  | .keydnAux1 => true
  | .keydnAux2 => true
  | .keydnAuto => true
  | .keyupThrUp => true
  | .keyupThrDown => true
  | .keyupRollLeft => true
  | .keyupRollRight => true
  | .keyupAux1 => true
  | .keyupAux2 => true
  | .keyupAuto => true
  | .setspd _ => true
  | .tmrstart => true
  | .tmrcancel => true
  | .pause => true
  | .resume => true
  | .connect => true
  | .disconnect => true
  | .mspulse _ _ => true
  | .setp _ => true
  | .seti _ => true
  | .setd _ => true
  | .sendcfg _ => true
  | .rdreg _ => true
  | .rc _ _ => true
  | .config _ _ => true
  | .rcThrottle size value => recordFits size value
  | .rcRoll size value => recordFits size value
  | .rcAux1 size value => recordFits size value
  | .rcAux2 size value => recordFits size value
  | .rcTimestamp _ => true
  | .cfgP _ => true
  | .cfgI _ => true
  | .cfgD _ => true

end Sys2Proof
end

