-- ==== Sys2Proof/Decode.lean ====
section
/-! DEFINITION. From presented bits to an instruction, total, rejecting by name (30_encoding.md R111 to R115),
and the encoder, written from the same tables. -/

namespace Sys2Proof

open Sys2Proof.Machine

/-- Why a command word is illegal: the conditions (a) to (f) of R115. -/
inductive Reject
  /-- (a) `op` is not in R111. -/
  | unassignedOp
  /-- (b) a field that must be zero is not. -/
  | unusedFieldNotZero
  /-- (c) a key code above 6. -/
  | keyCode
  /-- (d) `W[39:33]` of `MSPULSE` or `SENDCFG` is not zero. -/
  | txReadyBits
  /-- (e) an unassigned register number. -/
  | unassignedRegister
  /-- (f) `v` of `RXMSG` differs from the number of bytes delivered with it. -/
  | messageCount
deriving DecidableEq, Repr

/-- The register numbers (R40). -/
def Reg.number : Reg → Byte
  | .throttle => 0x00
  | .roll => 0x01
  | .aux1 => 0x02
  | .aux2 => 0x03
  | .mode => 0x04
  | .speedLimit => 0x05
  | .ismFlags => 0x06
  | .cfgP => 0x08
  | .cfgI => 0x09
  | .cfgD => 0x0A
  | .sched => 0x10
  | .tickCnt => 0x11
  | .encStat => 0x18
  | .rxStat => 0x20
  | .rxLen => 0x21
  | .fault => 0x30

/-- The register with a number, if the number is assigned (R40). -/
def Reg.ofNumber (n : Byte) : Option Reg :=
  match n with
  | 0x00#8 => some .throttle
  | 0x01#8 => some .roll
  | 0x02#8 => some .aux1
  | 0x03#8 => some .aux2
  | 0x04#8 => some .mode
  | 0x05#8 => some .speedLimit
  | 0x06#8 => some .ismFlags
  | 0x08#8 => some .cfgP
  | 0x09#8 => some .cfgI
  | 0x0A#8 => some .cfgD
  | 0x10#8 => some .sched
  | 0x11#8 => some .tickCnt
  | 0x18#8 => some .encStat
  | 0x20#8 => some .rxStat
  | 0x21#8 => some .rxLen
  | 0x30#8 => some .fault
  | _ => none

/-- Accept `i` where the fields R111 marks `0` are zero; otherwise R115 (b). -/
def requireZero (zero : Bool) (i : Instr) : Except Reject Instr :=
  if zero then .ok i else .error .unusedFieldNotZero

/-- `KEYDN.<key>` by key code (R111, R112, R115 (c)). -/
def decodeKeyDown (a : Byte) : Except Reject Instr :=
  match a with
  | 0x00#8 => .ok .keydnThrUp
  | 0x01#8 => .ok .keydnThrDown
  | 0x02#8 => .ok .keydnRollLeft
  | 0x03#8 => .ok .keydnRollRight
  | 0x04#8 => .ok .keydnAux1
  | 0x05#8 => .ok .keydnAux2
  | 0x06#8 => .ok .keydnAuto
  | _ => .error .keyCode

/-- `KEYUP.<key>` by key code (R111, R112, R115 (c)). -/
def decodeKeyUp (a : Byte) : Except Reject Instr :=
  match a with
  | 0x00#8 => .ok .keyupThrUp
  | 0x01#8 => .ok .keyupThrDown
  | 0x02#8 => .ok .keyupRollLeft
  | 0x03#8 => .ok .keyupRollRight
  | 0x04#8 => .ok .keyupAux1
  | 0x05#8 => .ok .keyupAux2
  | 0x06#8 => .ok .keyupAuto
  | _ => .error .keyCode

/-- The `tx_ready` operand of `MSPULSE` and `SENDCFG`: bit 32, bits 39:33 zero (R111, R115 (d)). -/
def decodeTxReady (a : Byte) (i : Bool → Instr) : Except Reject Instr :=
  match a with
  | 0x00#8 => .ok (i false)
  | 0x01#8 => .ok (i true)
  | _ => .error .txReadyBits

/-- The command word with operation code `op` and operands `a`, `v`, and the message bytes delivered with
it (R111). Only `RXMSG` has message bytes (R114; log 19). -/
def decodeFields (op a : Byte) (v : Word32) (bytes : List Byte) : Except Reject Instr :=
  match op with
  | 0x10#8 => requireZero (v == 0) (.beginFrame a)
  | 0x11#8 => .ok (.appi a v)
  | 0x12#8 => .ok (.appf a v)
  | 0x13#8 => requireZero (a == 0) (.appt v)
  | 0x14#8 => requireZero (a == 0 && v == 0) .sealFrame
  | 0x20#8 => requireZero (a == 0 && v == 0) .dhdr
  | 0x21#8 => requireZero (a == 0 && v == 0) .vchk
  | 0x22#8 => requireZero (a == 0) (.dtlv v)
  | 0x2F#8 =>
    if a == 0 then
      if v.toNat = bytes.length then .ok (.rxmsg bytes) else .error .messageCount
    else .error .unusedFieldNotZero
  | 0x30#8 => requireZero (a == 0) (.brc v)
  | 0x31#8 => requireZero (a == 0 && v == 0) .bcfg
  | 0x40#8 => if v == 0 then decodeKeyDown a else .error .unusedFieldNotZero
  | 0x41#8 => if v == 0 then decodeKeyUp a else .error .unusedFieldNotZero
  | 0x42#8 => requireZero (a == 0) (.setspd v)
  | 0x50#8 => requireZero (a == 0 && v == 0) .tmrstart
  | 0x51#8 => requireZero (a == 0 && v == 0) .tmrcancel
  | 0x52#8 => requireZero (a == 0 && v == 0) .pause
  | 0x53#8 => requireZero (a == 0 && v == 0) .resume
  | 0x54#8 => requireZero (a == 0 && v == 0) .connect
  | 0x55#8 => requireZero (a == 0 && v == 0) .disconnect
  | 0x56#8 => decodeTxReady a (.mspulse v)
  | 0x58#8 => requireZero (a == 0) (.setp v)
  | 0x59#8 => requireZero (a == 0) (.seti v)
  | 0x5A#8 => requireZero (a == 0) (.setd v)
  | 0x5B#8 => if v == 0 then decodeTxReady a .sendcfg else .error .unusedFieldNotZero
  | 0x60#8 =>
    if v == 0 then
      match Reg.ofNumber a with
      | some r => .ok (.rdreg r)
      | none => .error .unassignedRegister
    else .error .unusedFieldNotZero
  | _ => .error .unassignedOp

/-- Decode a command word (R110, R111, R115). -/
def decodeCommand (w : Command) (bytes : List Byte) : Except Reject Instr :=
  decodeFields (opField w) (aField w) (vField w) bytes

/-- Decode an inbound wire message by the FRAME rows: header 02 and type 01 is `RC`, type 02 is `CONFIG`.
Any other message is the plain message event `RXMSG` (log 12). -/
def decodeFrame (bytes : List Byte) : Instr :=
  match bytes with
  | header :: length :: type :: tail =>
    if header == Config.stx && type == Config.ftRc then .rc length tail
    else if header == Config.stx && type == Config.ftCfg then .config length tail
    else .rxmsg bytes
  | _ => .rxmsg bytes

/-- The record of an RC frame by its id byte, size byte and value bytes (TLV rows of frame `RC`, R100). -/
def decodeRcRecord (id size : Byte) (value : List Byte) : Option Instr :=
  if id == Config.idThrottle then some (.rcThrottle size value)
  else if id == Config.idRoll then some (.rcRoll size value)
  else if id == Config.idAux1 then some (.rcAux1 size value)
  else if id == Config.idAux2 then some (.rcAux2 size value)
  else if id == Config.idTimestamp && size == 4 then some (.rcTimestamp (leVal value))
  else none

/-- The record of a Config frame by its id byte, size byte and value bytes (TLV rows of frame `CONFIG`,
R101). -/
def decodeCfgRecord (id size : Byte) (value : List Byte) : Option Instr :=
  if size == 4 then
    if id == Config.idP then some (.cfgP (leVal value))
    else if id == Config.idI then some (.cfgI (leVal value))
    else if id == Config.idD then some (.cfgD (leVal value))
    else none
  else none

/-- The TLV row that a record selects within the frame type it stands in (R122), if it is one whole
record of such a row. -/
def decodeRecordRow (type : Byte) (bytes : List Byte) : Option Instr :=
  match bytes with
  | id :: size :: value =>
    if recordFits size value then
      if type == Config.ftRc then decodeRcRecord id size value
      else if type == Config.ftCfg then decodeCfgRecord id size value
      else none
    else none
  | _ => none

/-- Decode an inbound record within the frame type it stands in. A record that selects no TLV row is still
a message: the frame that carries it (log 12; log 20 for the length byte of one that no frame can hold). -/
def decodeRecord (type : Byte) (bytes : List Byte) : Instr :=
  (decodeRecordRow type bytes).getD (.rxmsg (frame type bytes))

/-- Decode what an agent presents: total on any bits, rejecting by name (R111 to R115). -/
def decode : Stimulus → Except Reject Instr
  | .command w bytes => decodeCommand w bytes
  | .frame bytes => .ok (decodeFrame bytes)
  | .record type bytes => .ok (decodeRecord type bytes)

/-! ### The encoder -/

/-- A command with no message bytes (R110, R114). -/
def commandOf (op a : Byte) (v : Word32) : Stimulus := .command (commandWord op a v) []

/-- The bits that present an instruction, from the same tables: R111, R112, R40 for command words, R91
for wire frames, R94 to R97 for records. -/
def encode : Instr → Stimulus
  | .beginFrame type => commandOf 0x10 type 0
  | .appi id value => commandOf 0x11 id value
  | .appf id pattern => commandOf 0x12 id pattern
  | .appt value => commandOf 0x13 0 value
  | .sealFrame => commandOf 0x14 0 0
  | .dhdr => commandOf 0x20 0 0
  | .vchk => commandOf 0x21 0 0
  | .dtlv offset => commandOf 0x22 0 offset
  | .rxmsg bytes => .command (commandWord 0x2F 0 (BitVec.ofNat 32 bytes.length)) bytes
  | .brc nowMs => commandOf 0x30 0 nowMs
  | .bcfg => commandOf 0x31 0 0
  | .keydnThrUp => commandOf 0x40 0 0
  | .keydnThrDown => commandOf 0x40 1 0
  | .keydnRollLeft => commandOf 0x40 2 0
  | .keydnRollRight => commandOf 0x40 3 0
  | .keydnAux1 => commandOf 0x40 4 0
  | .keydnAux2 => commandOf 0x40 5 0
  | .keydnAuto => commandOf 0x40 6 0
  | .keyupThrUp => commandOf 0x41 0 0
  | .keyupThrDown => commandOf 0x41 1 0
  | .keyupRollLeft => commandOf 0x41 2 0
  | .keyupRollRight => commandOf 0x41 3 0
  | .keyupAux1 => commandOf 0x41 4 0
  | .keyupAux2 => commandOf 0x41 5 0
  | .keyupAuto => commandOf 0x41 6 0
  | .setspd value => commandOf 0x42 0 value
  | .tmrstart => commandOf 0x50 0 0
  | .tmrcancel => commandOf 0x51 0 0
  | .pause => commandOf 0x52 0 0
  | .resume => commandOf 0x53 0 0
  | .connect => commandOf 0x54 0 0
  | .disconnect => commandOf 0x55 0 0
  | .mspulse nowMs txReady => commandOf 0x56 (txReadyField txReady) nowMs
  | .setp pattern => commandOf 0x58 0 pattern
  | .seti pattern => commandOf 0x59 0 pattern
  | .setd pattern => commandOf 0x5A 0 pattern
  | .sendcfg txReady => commandOf 0x5B (txReadyField txReady) 0
  | .rdreg reg => commandOf 0x60 reg.number 0
  | .rc length tail => .frame (Config.stx :: length :: Config.ftRc :: tail)
  | .config length tail => .frame (Config.stx :: length :: Config.ftCfg :: tail)
  | .rcThrottle size value => .record Config.ftRc (Config.idThrottle :: size :: value)
  | .rcRoll size value => .record Config.ftRc (Config.idRoll :: size :: value)
  | .rcAux1 size value => .record Config.ftRc (Config.idAux1 :: size :: value)
  | .rcAux2 size value => .record Config.ftRc (Config.idAux2 :: size :: value)
  | .rcTimestamp value => .record Config.ftRc (trec value)
  | .cfgP pattern => .record Config.ftCfg (frec Config.idP pattern)
  | .cfgI pattern => .record Config.ftCfg (frec Config.idI pattern)
  | .cfgD pattern => .record Config.ftCfg (frec Config.idD pattern)

/-! ### Table words (spec/opcode_table.json, R122) -/

/-- The byte of `w` at bits `8k+7:8k`. -/
def tableByte (w k : Nat) : Byte := BitVec.ofNat 8 (w / 256 ^ k)

/-- The frame type of a TLV row's 16-bit word. The word does not hold the frame type (R122 gives it beside
the row); the three rows of frame `CONFIG` have the larger mask and are taken first (log 11). -/
def tableRecordType (w : Nat) : Byte :=
  if w = 0x0401 ∨ w = 0x0402 ∨ w = 0x0403 then Config.ftCfg else Config.ftRc

/-- The bits of a table word as they are presented to the block, with every bit above `nbits` zero: a
48-bit command word with the zero message bytes it counts, a 24-bit start of a wire frame with the zero
bytes its length byte counts, or a 16-bit start of a record with the zero bytes its size byte counts
(R122, log 11). -/
def tableStimulus (nbits w : Nat) : Option Stimulus :=
  if nbits = 48 then
    some (.command (BitVec.ofNat 48 w)
      (if opField (BitVec.ofNat 48 w) == 0x2F then List.replicate (w % 2 ^ 32) 0 else []))
  else if nbits = 24 then
    some (.frame ([tableByte w 0, tableByte w 1, tableByte w 2] ++
      List.replicate (tableByte w 1).toNat 0))
  else if nbits = 16 then
    some (.record (tableRecordType w) ([tableByte w 0, tableByte w 1] ++
      List.replicate (tableByte w 1).toNat 0))
  else none

/-- The instruction the decoder reads from a word of the opcode table. -/
def decodeTableWord (nbits w : Nat) : Option Instr :=
  match tableStimulus nbits w with
  | some stimulus =>
    match decode stimulus with
    | .ok i => some i
    | .error _ => none
  | none => none

end Sys2Proof
end

