-- ==== Sys2Proof/Machine/State.lean ====
section
/-! DEFINITION. The state of TLVFE as plain data (10_state.md), its outputs, and the state after reset (R41). -/

namespace Sys2Proof.Machine

/-- A byte space: cells (index, byte), indices strictly rising. An unlisted index holds no byte that an
operation has written: its value is unspecified (R30, R31; log 5). -/
abbrev Memory := List Host.Cell

/-- The agents that issue operations (R10). The fourth agent, reset, issues none: it is an `Event`. -/
inductive Agent
  | host | transport | timeBase
deriving DecidableEq, Repr

/-- The causes of a `DecodeError` (R264, codes 1 to 8; code 0 `NONE` is `none` of `Option Cause`). -/
inductive Cause
  | truncated | badStx | lengthMismatch | checksum
  | tlvOffset | tlvSizeUnreadable | tlvBadSize | tlvOverrun
deriving DecidableEq, Repr

/-- The status of a response (R113). -/
inductive Status
  | ok | encodeOverflow | decodeError | transportUnavailable | rangeError | dropped | fault
deriving DecidableEq, Repr

/-- The response in which an operation ends: `respond(st, d0, d1, frame)` (R15, R113). -/
structure Response where
  st : Status
  d0 : Word32
  d1 : Word32
  frame : List Byte
deriving DecidableEq, Repr

/-- A response with the agent that issued the operation. Only the host's reach anyone (R15; log 3). -/
structure Answer where
  agent : Agent
  response : Response
deriving DecidableEq, Repr

/-- A decoded record: the triple `(id, size, value)` (R94, R164). -/
structure Record where
  id : Byte
  size : Byte
  value : Word32
deriving DecidableEq, Repr

/-- An item of `rx_out` (R164). -/
inductive RxItem
  /-- `Frame(type, records)`, the records in wire order. -/
  | frame (type : Byte) (records : List Record)
  /-- `Dropped(cause)`. -/
  | dropped (cause : Cause)
deriving DecidableEq, Repr

/-- The three sticky bits of `FAULT` (R33, R267). -/
inductive FaultBit
  | reentrant | notOpen | illegal
deriving DecidableEq, Repr

/-- Why a step of the model stops. EMPTY: no operation of the spec stops the block (R260); its own faults are
next states with a bit of `FAULT` set (R267, R268; log 18). Nothing raises one, so this is safe. -/
inductive Fault
deriving DecidableEq, Repr

/-- Why the model gives an instruction no meaning. -/
inductive Refusal
  /-- The instruction of that mnemonic is not modelled. Raised by no arm of `exec`: every row of the table
  has its meaning. Safe: the model would stop where the block goes on. -/
  | notModelled (mnemonic : String)
deriving DecidableEq, Repr

/-- The whole state: the registers of R40 and the two buffers (R20), then the model's own fields, which
are the block's inputs and outputs (log 2, log 3). -/
structure State where
  /-- `THROTTLE` (R21). -/
  throttle : Chan
  /-- `ROLL` (R21). -/
  roll : Chan
  /-- `AUX1` (R21). -/
  aux1 : Chan
  /-- `AUX2` (R21). -/
  aux2 : Chan
  /-- `SPEEDLIMIT` (R23). -/
  speedLimit : BitVec 9
  /-- `ISMFLAGS.auto` (R24). -/
  auto : Bool
  /-- `ISMFLAGS.held_auto` (R24). -/
  heldAuto : Bool
  /-- `ISMFLAGS.held_aux2` (R24). -/
  heldAux2 : Bool
  /-- `CFG_P` (R22). -/
  cfgP : Word32
  /-- `CFG_I` (R22). -/
  cfgI : Word32
  /-- `CFG_D` (R22). -/
  cfgD : Word32
  /-- `SCHED.run` (R26). -/
  run : Bool
  /-- `SCHED.paused` (R26). -/
  paused : Bool
  /-- `SCHED.connected` (R26). -/
  connected : Bool
  /-- `TICKCNT` (R27). -/
  tickCnt : BitVec 6
  /-- `ENCSTAT.open` (R29). -/
  encOpen : Bool
  /-- `ENCSTAT.wcur` (R29). -/
  wcur : Byte
  /-- `EB`, the encode buffer (R30). -/
  eb : Memory
  /-- `RXSTAT.loaded` (R32). -/
  rxLoaded : Bool
  /-- `RXSTAT.ok` (R32). -/
  rxOk : Bool
  /-- `RXSTAT.cause` (R32, R264). -/
  rxCause : Option Cause
  /-- `RXSTAT.ftype` (R32). -/
  rxFtype : Byte
  /-- `RXLEN` (R31). -/
  rxLen : BitVec 9
  /-- `RX`, the receive buffer (R31). -/
  rx : Memory
  /-- `FAULT.F_REENTRANT` (R33). -/
  fReentrant : Bool
  /-- `FAULT.F_NOT_OPEN` (R33). -/
  fNotOpen : Bool
  /-- `FAULT.F_ILLEGAL` (R33). -/
  fIllegal : Bool
  /-- MODEL: the events still to reach the block, in their one total order (R11, R70; log 2). -/
  inputs : List Event
  /-- MODEL: the responses of all operations so far, oldest first (R15; log 3). -/
  answers : List Answer
  /-- MODEL: `tx_out`, the frames handed to the transport so far, oldest first (R15, R72). -/
  txOut : List (List Byte)
  /-- MODEL: `rx_out`, the items handed to the consumer so far, oldest first (R15, R164). -/
  rxOut : List RxItem
deriving DecidableEq, Repr

/-- After reset (R41, R300): neutral channels, everything else 0, the buffers unspecified, nothing pushed,
and nothing presented yet. -/
def State.reset : State where
  throttle := 1500
  roll := 1500
  aux1 := 1000
  aux2 := 1000
  speedLimit := 0
  auto := false
  heldAuto := false
  heldAux2 := false
  cfgP := 0
  cfgI := 0
  cfgD := 0
  run := false
  paused := false
  connected := false
  tickCnt := 0
  encOpen := false
  wcur := 0
  eb := []
  rxLoaded := false
  rxOk := false
  rxCause := none
  rxFtype := 0
  rxLen := 0
  rx := []
  fReentrant := false
  fNotOpen := false
  fIllegal := false
  inputs := []
  answers := []
  txOut := []
  rxOut := []

end Sys2Proof.Machine
end

