-- ==== Sys2Proof/Machine/Codec.lean ====
section
/-! DEFINITION. The shared definitions of the decoder (41_frame_decoder.md R152, R153, R158) and the decode of
a whole message (R150), over any byte space given by its read function. -/

namespace Sys2Proof.Machine

/-- The structural check of a message of `n` bytes (R152): the first test that fails decides. -/
def structural (byte : Nat → Byte) (n : Nat) : Option Cause :=
  if n < Config.minFrame then some .truncated
  else if byte 0 ≠ Config.stx then some .badStx
  else if byte 1 = 0 then some .truncated
  else if n < (byte 1).toNat + 3 then some .truncated
  else if (byte 1).toNat + 3 < n then some .lengthMismatch
  else none

/-- The index of the checksum byte, `end = 2 + RX[1]` (R158). -/
def endOf (byte : Nat → Byte) : Nat := 2 + (byte 1).toNat

/-- The checksum test: the XOR of the body equals the byte after it (R153). -/
def cksumOk (byte : Nat → Byte) : Bool :=
  xorBytes (slice byte 2 (endOf byte)) == byte (endOf byte)

/-- What the record reader returns: the record and the index of the next one (R158). -/
structure TlvRead where
  record : Record
  next : Nat
deriving DecidableEq, Repr

/-- The record reader `tlv(o)` of a record area that ends at index `last` (R158). -/
def tlv (byte : Nat → Byte) (last o : Nat) : Except Cause TlvRead :=
  if o < 3 ∨ last ≤ o then .error .tlvOffset
  else if last ≤ o + 1 then .error .tlvSizeUnreadable
  else if ¬(byte (o + 1) = 1 ∨ byte (o + 1) = 2 ∨ byte (o + 1) = 4) then .error .tlvBadSize
  else if last < o + 2 + (byte (o + 1)).toNat then .error .tlvOverrun
  else .ok {
    record := {
      id := byte o
      size := byte (o + 1)
      value := leVal (slice byte (o + 2) (o + 2 + (byte (o + 1)).toNat)) }
    next := o + 2 + (byte (o + 1)).toNat }

/-- The loop of R150 over a record area that ends at `last`, from index `o`: all records or the first
cause. A record is at least 3 bytes, so `fuel = last - o` is enough. -/
def walk (byte : Nat → Byte) (last : Nat) : Nat → Nat → Except Cause (List Record)
  | 0, _ => .ok []
  | fuel + 1, o =>
    if o < last then
      match tlv byte last o with
      | .error c => .error c
      | .ok r =>
        match walk byte last fuel r.next with
        | .error c => .error c
        | .ok records => .ok (r.record :: records)
    else .ok []

/-- All records of the record area that starts at index 3 and ends at `last` (R150, R162). -/
def recordsOf (byte : Nat → Byte) (last : Nat) : Except Cause (List Record) :=
  walk byte last (last - 3) 3

/-- The decode of a whole message of `n` bytes: structure, then checksum, then every record in wire order
(R93, R150): its type and records, or the cause for which it is dropped. -/
def decodeMessage (byte : Nat → Byte) (n : Nat) : Except Cause (Byte × List Record) :=
  match structural byte n with
  | some c => .error c
  | none =>
    if cksumOk byte then
      match recordsOf byte (endOf byte) with
      | .error c => .error c
      | .ok records => .ok (byte 2, records)
    else .error .checksum

end Sys2Proof.Machine
end

