-- ==== Sys2Proof/Machine/Flags.lean ====
section
/-! DEFINITION. The flag words and codes of the spec: each multi-field register as it reads (10_state.md R24 to
R33, R40), the mode projection (R25), the status and cause codes (R113, R264), the halt test (R268). -/

namespace Sys2Proof.Machine

/-- The status codes (R113). -/
def Status.code : Status → Byte
  | .ok => 0x00
  | .encodeOverflow => 0x01
  | .decodeError => 0x02
  | .transportUnavailable => 0x03
  | .rangeError => 0x04
  | .dropped => 0x05
  | .fault => 0x06

/-- The cause codes 1 to 8 (R264). -/
def Cause.code : Cause → Byte
  | .truncated => 1
  | .badStx => 2
  | .lengthMismatch => 3
  | .checksum => 4
  | .tlvOffset => 5
  | .tlvSizeUnreadable => 6
  | .tlvBadSize => 7
  | .tlvOverrun => 8

/-- The cause code of `RXSTAT.cause`, 0 being `NONE` (R264). -/
def causeCode : Option Cause → Byte
  | none => 0
  | some c => c.code

/-- A one-bit field at bit `k` of a 32-bit register. -/
def flagBit (b : Bool) (k : Nat) : Word32 := if b then 1 <<< k else 0

/-- `MODE`: 2 AUTO if `auto`, else 1 SEMI_AUTO if `AUX2` is 2000, else 0 MANUAL (R25). -/
def State.mode (s : State) : Word32 :=
  if s.auto then 2 else if s.aux2 = Config.auxHigh then 1 else 0

/-- `ISMFLAGS` = `auto | held_auto << 1 | held_aux2 << 2` (R24, R250). -/
def State.ismFlagsWord (s : State) : Word32 :=
  flagBit s.auto 0 ||| flagBit s.heldAuto 1 ||| flagBit s.heldAux2 2

/-- `SCHED` = `run | paused << 1 | connected << 2` (R26, R250). -/
def State.schedWord (s : State) : Word32 :=
  flagBit s.run 0 ||| flagBit s.paused 1 ||| flagBit s.connected 2

/-- `ENCSTAT` = `open | wcur << 8` (R29, R250). -/
def State.encStatWord (s : State) : Word32 :=
  flagBit s.encOpen 0 ||| s.wcur.setWidth 32 <<< 8

/-- `RXSTAT` = `loaded | ok << 1 | cause << 8 | ftype << 16` (R32, R250). -/
def State.rxStatWord (s : State) : Word32 :=
  flagBit s.rxLoaded 0 ||| flagBit s.rxOk 1 ||| (causeCode s.rxCause).setWidth 32 <<< 8 |||
    s.rxFtype.setWidth 32 <<< 16

/-- `FAULT` = `F_REENTRANT | F_NOT_OPEN << 1 | F_ILLEGAL << 2` (R33). -/
def State.faultWord (s : State) : Word32 :=
  flagBit s.fReentrant 0 ||| flagBit s.fNotOpen 1 ||| flagBit s.fIllegal 2

/-- `halted`, `x[FAULT] != 0`: some sticky bit is set (R15, R33, R268). -/
def State.halted (s : State) : Bool := s.fReentrant || s.fNotOpen || s.fIllegal

/-- `x[reg]`, the register's value zero-extended to 32 bits (R40, R250). -/
def State.readReg (s : State) : Reg → Word32
  | .throttle => s.throttle.setWidth 32
  | .roll => s.roll.setWidth 32
  | .aux1 => s.aux1.setWidth 32
  | .aux2 => s.aux2.setWidth 32
  | .mode => s.mode
  | .speedLimit => s.speedLimit.setWidth 32
  | .ismFlags => s.ismFlagsWord
  | .cfgP => s.cfgP
  | .cfgI => s.cfgI
  | .cfgD => s.cfgD
  | .sched => s.schedWord
  | .tickCnt => s.tickCnt.setWidth 32
  | .encStat => s.encStatWord
  | .rxStat => s.rxStatWord
  | .rxLen => s.rxLen.setWidth 32
  | .fault => s.faultWord

end Sys2Proof.Machine
end

