-- ==== Sys2Proof/Machine/Ops.lean ====
section
/-! DEFINITION. The named operations that the meanings share: the byte spaces, responses and outputs, raising
an error outcome or a fault and leaving the halted state (60_exceptions.md), the common prologue (R270),
receiving a message (R150), the tick (R227), and taking the next event. -/

namespace Sys2Proof.Machine

/-! ### Byte spaces (20_memory.md) -/

/-- The byte last written at an index, if any was. -/
def Memory.get : Memory → Nat → Option Byte
  | [], _ => none
  | (i, b) :: cells, a => if a = i then some b else Memory.get cells a

/-- Write one byte, keeping the indices strictly rising. -/
def Memory.write : Memory → Nat → Byte → Memory
  | [], a, b => [(a, b)]
  | (i, c) :: cells, a, b =>
    if a < i then (a, b) :: (i, c) :: cells
    else if a = i then (a, b) :: cells
    else (i, c) :: Memory.write cells a b

/-- Write a byte sequence from an index on, index 0 first (R13). -/
def Memory.writeBytes : Memory → Nat → List Byte → Memory
  | m, _, [] => m
  | m, a, b :: bs => Memory.writeBytes (Memory.write m a b) (a + 1) bs

/-- The byte space that holds exactly a byte sequence from an index on. -/
def Memory.ofBytes : Nat → List Byte → Memory
  | _, [] => []
  | a, b :: bs => (a, b) :: Memory.ofBytes (a + 1) bs

/-- The canonical form: indices strictly rising. An unlisted index has no value, so no entry is equal to
one. -/
def Memory.wf : Memory → Bool
  | [] => true
  | [_] => true
  | (i, _) :: (j, c) :: cells => decide (i < j) && Memory.wf ((j, c) :: cells)

/-- `EB[i]` (R14, R30): the byte written there, else a free value (log 5). -/
def State.ebByte (s : State) (i : Nat) : Byte := (s.eb.get i).getD (Config.ebResidue i)

/-- `RX[i]` (R14, R31): the byte of the last message there, else a free value (log 5, log 6). -/
def State.rxByte (s : State) (i : Nat) : Byte := (s.rx.get i).getD (Config.rxResidue i)

/-! ### Responses and outputs (R15, R113) -/

/-- The operation of `agent` ends in the response `r` (R15). -/
def State.answer (s : State) (agent : Agent) (r : Response) : State :=
  { s with answers := s.answers ++ [⟨agent, r⟩] }

/-- `respond(OK, d0, d1, frame)` (R113). -/
def okResponse (d0 d1 : Word32) (f : List Byte) : Response := ⟨.ok, d0, d1, f⟩

/-- `respond(OK, 0, 0, [])`. -/
def ok0 : Response := okResponse 0 0 []

/-- A response of another status: `d1` is 0 and there is no frame (R113). -/
def errorResponse (st : Status) (d0 : Word32) : Response := ⟨st, d0, 0, []⟩

/-- `tx_out.push(f)` (R15). -/
def State.pushTx (s : State) (f : List Byte) : State := { s with txOut := s.txOut ++ [f] }

/-- `rx_out.push(item)` (R15). -/
def State.pushRx (s : State) (item : RxItem) : State := { s with rxOut := s.rxOut ++ [item] }

/-- The responses that reach someone: the host's (R15). -/
def State.hostResponses (s : State) : List Response :=
  (s.answers.filter fun a => a.agent == .host).map Answer.response

/-! ### Error outcomes (R260 (b), R262 to R266) -/

/-- `raise EncodeOverflow`: the builder is closed and its partial frame discarded (R262). -/
def State.raiseOverflow (s : State) (agent : Agent) : State :=
  { s with encOpen := false, wcur := 0 }.answer agent (errorResponse .encodeOverflow 0)

/-- `raise DecodeError(cause)`: no state changes (R263). -/
def State.raiseDecodeError (s : State) (agent : Agent) (c : Cause) : State :=
  s.answer agent (errorResponse .decodeError (c.code.setWidth 32))

/-- `raise TransportUnavailable`: no state changes (R265). -/
def State.raiseTransportUnavailable (s : State) (agent : Agent) : State :=
  s.answer agent (errorResponse .transportUnavailable 0)

/-- `raise RangeError`: no state changes (R266). -/
def State.raiseRange (s : State) (agent : Agent) : State :=
  s.answer agent (errorResponse .rangeError 0)

/-- The status `DROPPED`: no state changes (R266). -/
def State.respondDropped (s : State) (agent : Agent) : State :=
  s.answer agent (errorResponse .dropped 0)

/-! ### Faults, the halted state, reset (R267, R268, R270, R300) -/

/-- `x[FAULT].bit <- 1` (R267). -/
def State.setFault (s : State) : FaultBit → State
  | .reentrant => { s with fReentrant := true }
  | .notOpen => { s with fNotOpen := true }
  | .illegal => { s with fIllegal := true }

/-- `respond(FAULT, x[FAULT], 0, [])` (R267, R268). -/
def State.respondFault (s : State) (agent : Agent) : State :=
  s.answer agent (errorResponse .fault s.faultWord)

/-- Taking a fault: the sticky bit is set, everything else is left as it was, and the response carries the
new value of `FAULT`. The block is halted from then on (R267). -/
def State.raiseFault (s : State) (agent : Agent) (bit : FaultBit) : State :=
  (s.setFault bit).respondFault agent

/-- Reset, the only way out of the halted state: every register at its reset value, the buffers
unspecified; what was already pushed is not recalled (R300). -/
def State.resetBlock (s : State) : State :=
  { State.reset with inputs := s.inputs, answers := s.answers, txOut := s.txOut, rxOut := s.rxOut }

/-- The halted test of the common prologue before an operation's own pseudocode (R268, R270). The legality
test before it is the decoder's. -/
def unlessHalted (agent : Agent) (s : State) (body : State → State) :
    Host.Outcome State Fault Refusal :=
  if s.halted then .next (s.respondFault agent) else .next (body s)

/-- The agent that issues a command word, by its operation code (R111, column agent): the transport for
`RXMSG`, `CONNECT`, `DISCONNECT`, the time base for `MSPULSE`, else the host (log 10). -/
def issuer (w : Command) : Agent :=
  if opField w = 0x2F ∨ opField w = 0x54 ∨ opField w = 0x55 then .transport
  else if opField w = 0x56 then .timeBase
  else .host

/-- The agent that presents a stimulus: wire messages come from the transport. -/
def Stimulus.agent : Stimulus → Agent
  | .command w _ => issuer w
  | .frame _ => .transport
  | .record _ _ => .transport

/-- An illegal word sets `F_ILLEGAL` and changes nothing else, halted or not (R115, R270). -/
def illegalWord (stimulus : Stimulus) (s : State) : State :=
  s.raiseFault (Stimulus.agent stimulus) .illegal

/-! ### Shared bodies of operations -/

/-- The append step of a record (R131): open test, space test, write, advance. -/
def State.append (s : State) (record : List Byte) : State :=
  if s.encOpen then
    if Config.wcurMax < s.wcur.toNat + record.length then s.raiseOverflow .host
    else
      { s with
        eb := s.eb.writeBytes s.wcur.toNat record
        wcur := BitVec.ofNat 8 (s.wcur.toNat + record.length) }.answer .host
        (okResponse (BitVec.ofNat 32 (s.wcur.toNat + record.length)) 0 [])
  else s.raiseFault .host .notOpen

/-- The first writes of R150: `RX` holds the first 258 bytes and nothing else, `RXLEN` the count up to
259, `loaded` is set. -/
def State.loadRx (s : State) (bytes : List Byte) : State :=
  { s with
    rx := Memory.ofBytes 0 (bytes.take Config.rxbufSize)
    rxLen := BitVec.ofNat 9 (min bytes.length Config.rxLenMax)
    rxLoaded := true }

/-- The last writes of R150: `RXSTAT` and one item pushed to `rx_out`. -/
def State.report (s : State) : Except Cause (Byte × List Record) → State
  | .ok (type, records) =>
    { s with rxOk := true, rxCause := none, rxFtype := type }.pushRx (.frame type records)
  | .error c => { s with rxOk := false, rxCause := some c, rxFtype := 0 }.pushRx (.dropped c)

/-- The message decode of R150 on the bytes that are in `RX`. -/
def State.decodeRx (s : State) : Except Cause (Byte × List Record) :=
  decodeMessage s.rxByte s.rxLen.toNat

/-- An inbound binary message arrives (R150): load, decode, report, respond. -/
def State.receive (s : State) (bytes : List Byte) : State :=
  ((s.loadRx bytes).report (s.loadRx bytes).decodeRx).answer .transport ok0

/-- The RC frame of the channels as they stand, one snapshot (R181, R227). -/
def State.rcFrame (s : State) (t : Word32) : List Byte := encRC s.throttle s.roll s.aux1 s.aux2 t

/-- The Config frame of the gains as they stand, one snapshot (R184, R233). -/
def State.cfgFrame (s : State) : List Byte := encCFG s.cfgP s.cfgI s.cfgD

/-- `TICK(now_ms, tx_ready)` (R227). -/
def State.tick (s : State) (nowMs : Word32) (txReady : Bool) : State :=
  if s.connected && !s.paused then
    if txReady then s.pushTx (s.rcFrame nowMs) else s
  else s

/-- The count of `MSPULSE` and the tick it fires (R226). -/
def State.pulse (s : State) (nowMs : Word32) (txReady : Bool) : State :=
  if s.run then
    if s.tickCnt.toNat = Config.tickPeriodMs - 1 then { s with tickCnt := 0 }.tick nowMs txReady
    else { s with tickCnt := s.tickCnt + 1 }
  else s

/-- The response of an input-machine operation: `OK` with `MODE` after it (43_input_state_machine.md). -/
def State.answerMode (s : State) : State := s.answer .host (okResponse s.mode 0 [])

/-! ### Taking the next event (log 2) -/

/-- The next event in the order of R11, and the state with it taken. -/
def fetch (s : State) : Option (Event × State) :=
  match s.inputs with
  | [] => none
  | e :: rest => some (e, { s with inputs := rest })

/-- Present a stimulus as the very next event. -/
def State.present (s : State) (stimulus : Stimulus) : State :=
  { s with inputs := .op stimulus :: s.inputs }

/-- Present the bits of an opcode-table word as the very next event (log 11). -/
def presentTableWord (s : State) (nbits w : Nat) : State :=
  match tableStimulus nbits w with
  | some stimulus => s.present stimulus
  | none => s

end Sys2Proof.Machine
end

