-- ==== Sys2Proof/Machine/Builders.lean ====
section
/-! DEFINITION. Packet builders: BRC, BCFG (42_packet_builders.md). They do not use `EB` (R180). -/

namespace Sys2Proof.Machine

/-- `BRC nowMs` (R181). -/
def execBrc (nowMs : Word32) (s : State) : Host.Outcome State Fault Refusal :=
  unlessHalted .host s fun s =>
    s.answer .host
      (okResponse (BitVec.ofNat 32 (s.rcFrame nowMs).length) 0 (s.rcFrame nowMs))

/-- `BCFG` (R184). -/
def execBcfg (s : State) : Host.Outcome State Fault Refusal :=
  unlessHalted .host s fun s =>
    s.answer .host (okResponse (BitVec.ofNat 32 s.cfgFrame.length) 0 s.cfgFrame)

end Sys2Proof.Machine
end

