-- ==== Sys2Proof/Machine/Decoder.lean ====
section
/-! DEFINITION. Frame decoder and checksum validator: RXMSG, DHDR, VCHK, DTLV (41_frame_decoder.md). -/

namespace Sys2Proof.Machine

/-- `RXMSG bytes` (R150). -/
def execRxmsg (bytes : List Byte) (s : State) : Host.Outcome State Fault Refusal :=
  unlessHalted .transport s fun s => s.receive bytes

/-- `DHDR` (R154): `d0[7:0]` the type, `d0[15:8]` the length. -/
def execDhdr (s : State) : Host.Outcome State Fault Refusal :=
  unlessHalted .host s fun s =>
    if s.rxLen.toNat < Config.hdrSize then s.raiseDecodeError .host .truncated
    else if s.rxByte 0 ≠ Config.stx then s.raiseDecodeError .host .badStx
    else if s.rxByte 1 = 0 then s.raiseDecodeError .host .truncated
    else
      s.answer .host
        (okResponse ((s.rxByte 2).setWidth 32 ||| (s.rxByte 1).setWidth 32 <<< 8) 0 [])

/-- The boolean of `VCHK`: structure and checksum (R156). -/
def State.checksumValid (s : State) : Bool :=
  structural s.rxByte s.rxLen.toNat == none && cksumOk s.rxByte

/-- `VCHK` (R156). -/
def execVchk (s : State) : Host.Outcome State Fault Refusal :=
  unlessHalted .host s fun s =>
    s.answer .host (okResponse (if s.checksumValid then 1 else 0) 0 [])

/-- `d1` of a successful `DTLV`: `id | size << 8 | next << 16` (R160). -/
def tlvWord (r : TlvRead) : Word32 :=
  r.record.id.setWidth 32 ||| r.record.size.setWidth 32 <<< 8 ||| BitVec.ofNat 32 r.next <<< 16

/-- The read of `DTLV`: structure first, then the record (R160). -/
def State.readRecord (s : State) (offset : Nat) : Except Cause TlvRead :=
  match structural s.rxByte s.rxLen.toNat with
  | some c => .error c
  | none => tlv s.rxByte (endOf s.rxByte) offset

/-- `DTLV offset` (R160). -/
def execDtlv (offset : Word32) (s : State) : Host.Outcome State Fault Refusal :=
  unlessHalted .host s fun s =>
    match s.readRecord offset.toNat with
    | .error c => s.raiseDecodeError .host c
    | .ok r => s.answer .host (okResponse r.record.value (tlvWord r) [])

end Sys2Proof.Machine
end

