-- ==== Sys2Proof/Machine/Encoder.lean ====
section
/-! DEFINITION. Frame encoder: BEGIN, APPI, APPF, APPT, SEAL (40_frame_encoder.md). -/

namespace Sys2Proof.Machine

/-- `BEGIN type` (R130). -/
def execBegin (type : Byte) (s : State) : Host.Outcome State Fault Refusal :=
  unlessHalted .host s fun s =>
    if s.encOpen then s.raiseFault .host .reentrant
    else
      { s with
        eb := s.eb.writeBytes 0 [Config.stx, 0x00, type]
        wcur := 3
        encOpen := true }.answer .host ok0

/-- `APPI id, value` (R132). -/
def execAppi (id : Byte) (value : Word32) (s : State) : Host.Outcome State Fault Refusal :=
  unlessHalted .host s fun s => s.append (irec id value)

/-- `APPF id, pattern` (R133). -/
def execAppf (id : Byte) (pattern : Word32) (s : State) : Host.Outcome State Fault Refusal :=
  unlessHalted .host s fun s => s.append (frec id pattern)

/-- `APPT value` (R134). -/
def execAppt (value : Word32) (s : State) : Host.Outcome State Fault Refusal :=
  unlessHalted .host s fun s => s.append (trec value)

/-- The two writes of `SEAL`: the length byte `wcur - 2` at index 1, then the XOR of `EB[2 .. wcur)` at
index `wcur` (R135). -/
def State.sealWrites (s : State) : State :=
  let patched := { s with eb := s.eb.write 1 (BitVec.ofNat 8 (s.wcur.toNat - 2)) }
  { patched with
    eb := patched.eb.write s.wcur.toNat (xorBytes (slice patched.ebByte 2 s.wcur.toNat)) }

/-- The finished frame `EB[0 .. wcur+1)` (R135). -/
def State.sealedFrame (s : State) : List Byte := slice s.sealWrites.ebByte 0 (s.wcur.toNat + 1)

/-- `SEAL` (R135). -/
def execSeal (s : State) : Host.Outcome State Fault Refusal :=
  unlessHalted .host s fun s =>
    if s.encOpen then
      { s.sealWrites with encOpen := false, wcur := 0 }.answer .host
        (okResponse (BitVec.ofNat 32 (s.wcur.toNat + 1)) 0 s.sealedFrame)
    else s.raiseFault .host .notOpen

end Sys2Proof.Machine
end

