-- ==== Sys2Proof/Machine/Input.lean ====
section
/-! DEFINITION. Input state machine: the seven KEYDN, the seven KEYUP, SETSPD (43_input_state_machine.md). -/

namespace Sys2Proof.Machine

/-- The throttle keys write the throttle outside AUTO and are ignored in AUTO (R190, R191, R200, R201). -/
def State.throttleKey (s : State) (value : Chan) : State :=
  if s.auto then s else { s with throttle := value }

/-- The flip of `AUX2` (R195). -/
def flipAux (aux2 : Chan) : Chan :=
  if aux2 = Config.auxHigh then Config.auxLow else Config.auxHigh

/-- `KEYDN.THR_UP` (R190). -/
def execKeydnThrUp (s : State) : Host.Outcome State Fault Refusal :=
  unlessHalted .host s fun s => (s.throttleKey (neutralMinus s.speedLimit)).answerMode

/-- `KEYDN.THR_DOWN` (R191). -/
def execKeydnThrDown (s : State) : Host.Outcome State Fault Refusal :=
  unlessHalted .host s fun s => (s.throttleKey (neutralPlus s.speedLimit)).answerMode

/-- `KEYDN.ROLL_LEFT` (R192): left takes the plus sign, in every mode. -/
def execKeydnRollLeft (s : State) : Host.Outcome State Fault Refusal :=
  unlessHalted .host s fun s => { s with roll := neutralPlus s.speedLimit }.answerMode

/-- `KEYDN.ROLL_RIGHT` (R193): right takes the minus sign, in every mode. -/
def execKeydnRollRight (s : State) : Host.Outcome State Fault Refusal :=
  unlessHalted .host s fun s => { s with roll := neutralMinus s.speedLimit }.answerMode

/-- `KEYDN.AUX1` (R194). -/
def execKeydnAux1 (s : State) : Host.Outcome State Fault Refusal :=
  unlessHalted .host s fun s => { s with aux1 := Config.auxHigh }.answerMode

/-- The press of the aux2 toggle (R195): it acts only when not held; in AUTO it is only recorded. -/
def State.pressAux2 (s : State) : State :=
  if s.heldAux2 then s
  else if s.auto then { s with heldAux2 := true }
  else { s with heldAux2 := true, aux2 := flipAux s.aux2 }

/-- `KEYDN.AUX2` (R195). -/
def execKeydnAux2 (s : State) : Host.Outcome State Fault Refusal :=
  unlessHalted .host s fun s => s.pressAux2.answerMode

/-- The press of the auto toggle (R196): it acts only when not held; it enters or leaves AUTO. -/
def State.pressAuto (s : State) : State :=
  if s.heldAuto then s
  else if s.auto then
    { s with heldAuto := true, auto := false, throttle := neutralChan, aux2 := Config.auxLow }
  else
    { s with
      heldAuto := true
      auto := true
      throttle := neutralMinus s.speedLimit
      aux2 := Config.auxHigh }

/-- `KEYDN.AUTO` (R196). -/
def execKeydnAuto (s : State) : Host.Outcome State Fault Refusal :=
  unlessHalted .host s fun s => s.pressAuto.answerMode

/-- `KEYUP.THR_UP` (R200). -/
def execKeyupThrUp (s : State) : Host.Outcome State Fault Refusal :=
  unlessHalted .host s fun s => (s.throttleKey neutralChan).answerMode

/-- `KEYUP.THR_DOWN` (R201). -/
def execKeyupThrDown (s : State) : Host.Outcome State Fault Refusal :=
  unlessHalted .host s fun s => (s.throttleKey neutralChan).answerMode

/-- `KEYUP.ROLL_LEFT` (R202). -/
def execKeyupRollLeft (s : State) : Host.Outcome State Fault Refusal :=
  unlessHalted .host s fun s => { s with roll := neutralChan }.answerMode

/-- `KEYUP.ROLL_RIGHT` (R203). -/
def execKeyupRollRight (s : State) : Host.Outcome State Fault Refusal :=
  unlessHalted .host s fun s => { s with roll := neutralChan }.answerMode

/-- `KEYUP.AUX1` (R204). -/
def execKeyupAux1 (s : State) : Host.Outcome State Fault Refusal :=
  unlessHalted .host s fun s => { s with aux1 := Config.auxLow }.answerMode

/-- `KEYUP.AUX2` (R205). -/
def execKeyupAux2 (s : State) : Host.Outcome State Fault Refusal :=
  unlessHalted .host s fun s => { s with heldAux2 := false }.answerMode

/-- `KEYUP.AUTO` (R206). -/
def execKeyupAuto (s : State) : Host.Outcome State Fault Refusal :=
  unlessHalted .host s fun s => { s with heldAuto := false }.answerMode

/-- The speed limit of `SETSPD`, re-applied to the throttle at once in AUTO (R212). -/
def State.setSpeedLimit (s : State) (limit : BitVec 9) : State :=
  if s.auto then { s with speedLimit := limit, throttle := neutralMinus limit }
  else { s with speedLimit := limit }

/-- `SETSPD value` (R212): a value above 500 is refused with `RangeError` (R266). -/
def execSetspd (value : Word32) (s : State) : Host.Outcome State Fault Refusal :=
  unlessHalted .host s fun s =>
    if Config.speedMax < value.toNat then s.raiseRange .host
    else (s.setSpeedLimit (value.setWidth 9)).answerMode

end Sys2Proof.Machine
end

