-- ==== Sys2Proof/Machine/Register.lean ====
section
/-! DEFINITION. Register access: RDREG (45_register_access.md). -/

namespace Sys2Proof.Machine

/-- `RDREG reg` (R250): the only operation that executes while the block is halted (R268, R270). -/
def execRdreg (reg : Reg) (s : State) : Host.Outcome State Fault Refusal :=
  .next (s.answer .host (okResponse (s.readReg reg) 0 []))

end Sys2Proof.Machine
end

