-- ==== Sys2Proof/Machine/Scheduler.lean ====
section
/-! DEFINITION. Transmission scheduler and config path: TMRSTART to SENDCFG (44_scheduler.md). -/

namespace Sys2Proof.Machine

/-- `TMRSTART` (R220): while already running it changes nothing. -/
def execTmrstart (s : State) : Host.Outcome State Fault Refusal :=
  unlessHalted .host s fun s =>
    (if s.run then s else { s with run := true, tickCnt := 0 }).answer .host ok0

/-- `TMRCANCEL` (R221). -/
def execTmrcancel (s : State) : Host.Outcome State Fault Refusal :=
  unlessHalted .host s fun s => { s with run := false, tickCnt := 0 }.answer .host ok0

/-- `PAUSE` (R222). -/
def execPause (s : State) : Host.Outcome State Fault Refusal :=
  unlessHalted .host s fun s => { s with paused := true }.answer .host ok0

/-- `RESUME` (R223). -/
def execResume (s : State) : Host.Outcome State Fault Refusal :=
  unlessHalted .host s fun s => { s with paused := false }.answer .host ok0

/-- `CONNECT` (R224), issued by the transport. -/
def execConnect (s : State) : Host.Outcome State Fault Refusal :=
  unlessHalted .transport s fun s => { s with connected := true }.answer .transport ok0

/-- `DISCONNECT` (R225), issued by the transport. -/
def execDisconnect (s : State) : Host.Outcome State Fault Refusal :=
  unlessHalted .transport s fun s => { s with connected := false }.answer .transport ok0

/-- `MSPULSE now_ms, tx_ready` (R226), issued by the time base. -/
def execMspulse (nowMs : Word32) (txReady : Bool) (s : State) : Host.Outcome State Fault Refusal :=
  unlessHalted .timeBase s fun s => (s.pulse nowMs txReady).answer .timeBase ok0

/-- `SETP pattern` (R230). -/
def execSetp (pattern : Word32) (s : State) : Host.Outcome State Fault Refusal :=
  unlessHalted .host s fun s => { s with cfgP := pattern }.answer .host ok0

/-- `SETI pattern` (R231). -/
def execSeti (pattern : Word32) (s : State) : Host.Outcome State Fault Refusal :=
  unlessHalted .host s fun s => { s with cfgI := pattern }.answer .host ok0

/-- `SETD pattern` (R232). -/
def execSetd (pattern : Word32) (s : State) : Host.Outcome State Fault Refusal :=
  unlessHalted .host s fun s => { s with cfgD := pattern }.answer .host ok0

/-- `SENDCFG tx_ready` (R233): connected first, then ready (R272). -/
def execSendcfg (txReady : Bool) (s : State) : Host.Outcome State Fault Refusal :=
  unlessHalted .host s fun s =>
    if s.connected then
      if txReady then
        (s.pushTx s.cfgFrame).answer .host
          (okResponse (BitVec.ofNat 32 s.cfgFrame.length) 0 s.cfgFrame)
      else s.respondDropped .host
    else s.raiseTransportUnavailable .host

end Sys2Proof.Machine
end

