-- ==== Sys2Proof/Machine/Wire.lean ====
section
/-! DEFINITION. The FRAME and TLV rows as inbound wire items (30_encoding.md R98 to R104; log 1): each reaches the
block as one binary message, which has the effect of 41_frame_decoder.md R150. The block never acts on
an inbound frame itself (R164). -/

namespace Sys2Proof.Machine

/-- FRAME row `RC`: the message `02 | length | 01 | tail` arrives (R100, R150). -/
def execRc (length : Byte) (tail : List Byte) (s : State) : Host.Outcome State Fault Refusal :=
  unlessHalted .transport s fun s => s.receive (Config.stx :: length :: Config.ftRc :: tail)

/-- FRAME row `CONFIG`: the message `02 | length | 02 | tail` arrives (R101, R150). -/
def execConfig (length : Byte) (tail : List Byte) (s : State) : Host.Outcome State Fault Refusal :=
  unlessHalted .transport s fun s => s.receive (Config.stx :: length :: Config.ftCfg :: tail)

/-- TLV row `RC.THROTTLE`: an RC frame with this one record arrives (R100, R150). -/
def execRcThrottle (size : Byte) (value : List Byte) (s : State) :
    Host.Outcome State Fault Refusal :=
  unlessHalted .transport s fun s =>
    s.receive (recordFrame Config.ftRc Config.idThrottle size value)

/-- TLV row `RC.ROLL` (R100, R150). -/
def execRcRoll (size : Byte) (value : List Byte) (s : State) : Host.Outcome State Fault Refusal :=
  unlessHalted .transport s fun s => s.receive (recordFrame Config.ftRc Config.idRoll size value)

/-- TLV row `RC.AUX1` (R100, R150). -/
def execRcAux1 (size : Byte) (value : List Byte) (s : State) : Host.Outcome State Fault Refusal :=
  unlessHalted .transport s fun s => s.receive (recordFrame Config.ftRc Config.idAux1 size value)

/-- TLV row `RC.AUX2` (R100, R150). -/
def execRcAux2 (size : Byte) (value : List Byte) (s : State) : Host.Outcome State Fault Refusal :=
  unlessHalted .transport s fun s => s.receive (recordFrame Config.ftRc Config.idAux2 size value)

/-- TLV row `RC.TIMESTAMP` (R97, R100, R150). -/
def execRcTimestamp (value : Word32) (s : State) : Host.Outcome State Fault Refusal :=
  unlessHalted .transport s fun s => s.receive (frame Config.ftRc (trec value))

/-- TLV row `CFG.P` (R101, R150). -/
def execCfgP (pattern : Word32) (s : State) : Host.Outcome State Fault Refusal :=
  unlessHalted .transport s fun s => s.receive (frame Config.ftCfg (frec Config.idP pattern))

/-- TLV row `CFG.I` (R101, R150). -/
def execCfgI (pattern : Word32) (s : State) : Host.Outcome State Fault Refusal :=
  unlessHalted .transport s fun s => s.receive (frame Config.ftCfg (frec Config.idI pattern))

/-- TLV row `CFG.D` (R101, R150). -/
def execCfgD (pattern : Word32) (s : State) : Host.Outcome State Fault Refusal :=
  unlessHalted .transport s fun s => s.receive (frame Config.ftCfg (frec Config.idD pattern))

end Sys2Proof.Machine
end

