-- ==== Sys2Proof/Machine/Dispatch.lean ====
section
/-! DEFINITION. One arm per row of spec/opcode_table.json, each one direct call of its meaning. -/

namespace Sys2Proof.Machine

def exec (i : Instr) (s : State) : Host.Outcome State Fault Refusal :=
  match i with
  | .beginFrame type => Sys2Proof.Machine.execBegin type s
  | .appi id value => Sys2Proof.Machine.execAppi id value s
  | .appf id pattern => Sys2Proof.Machine.execAppf id pattern s
  | .appt value => Sys2Proof.Machine.execAppt value s
  | .sealFrame => Sys2Proof.Machine.execSeal s
  | .dhdr => Sys2Proof.Machine.execDhdr s
  | .vchk => Sys2Proof.Machine.execVchk s
  | .dtlv offset => Sys2Proof.Machine.execDtlv offset s
  | .rxmsg bytes => Sys2Proof.Machine.execRxmsg bytes s
  | .brc nowMs => Sys2Proof.Machine.execBrc nowMs s
  | .bcfg => Sys2Proof.Machine.execBcfg s
  | .keydnThrUp => Sys2Proof.Machine.execKeydnThrUp s
  | .keydnThrDown => Sys2Proof.Machine.execKeydnThrDown s
  | .keydnRollLeft => Sys2Proof.Machine.execKeydnRollLeft s
  | .keydnRollRight => Sys2Proof.Machine.execKeydnRollRight s
  | .keydnAux1 => Sys2Proof.Machine.execKeydnAux1 s
  | .keydnAux2 => Sys2Proof.Machine.execKeydnAux2 s
  | .keydnAuto => Sys2Proof.Machine.execKeydnAuto s
  | .keyupThrUp => Sys2Proof.Machine.execKeyupThrUp s
  | .keyupThrDown => Sys2Proof.Machine.execKeyupThrDown s
  | .keyupRollLeft => Sys2Proof.Machine.execKeyupRollLeft s
  | .keyupRollRight => Sys2Proof.Machine.execKeyupRollRight s
  | .keyupAux1 => Sys2Proof.Machine.execKeyupAux1 s
  | .keyupAux2 => Sys2Proof.Machine.execKeyupAux2 s
  | .keyupAuto => Sys2Proof.Machine.execKeyupAuto s
  | .setspd value => Sys2Proof.Machine.execSetspd value s
  | .tmrstart => Sys2Proof.Machine.execTmrstart s
  | .tmrcancel => Sys2Proof.Machine.execTmrcancel s
  | .pause => Sys2Proof.Machine.execPause s
  | .resume => Sys2Proof.Machine.execResume s
  | .connect => Sys2Proof.Machine.execConnect s
  | .disconnect => Sys2Proof.Machine.execDisconnect s
  | .mspulse nowMs txReady => Sys2Proof.Machine.execMspulse nowMs txReady s
  | .setp pattern => Sys2Proof.Machine.execSetp pattern s
  | .seti pattern => Sys2Proof.Machine.execSeti pattern s
  | .setd pattern => Sys2Proof.Machine.execSetd pattern s
  | .sendcfg txReady => Sys2Proof.Machine.execSendcfg txReady s
  | .rdreg reg => Sys2Proof.Machine.execRdreg reg s
  | .rc length tail => Sys2Proof.Machine.execRc length tail s
  | .config length tail => Sys2Proof.Machine.execConfig length tail s
  | .rcThrottle size value => Sys2Proof.Machine.execRcThrottle size value s
  | .rcRoll size value => Sys2Proof.Machine.execRcRoll size value s
  | .rcAux1 size value => Sys2Proof.Machine.execRcAux1 size value s
  | .rcAux2 size value => Sys2Proof.Machine.execRcAux2 size value s
  | .rcTimestamp value => Sys2Proof.Machine.execRcTimestamp value s
  | .cfgP pattern => Sys2Proof.Machine.execCfgP pattern s
  | .cfgI pattern => Sys2Proof.Machine.execCfgI pattern s
  | .cfgD pattern => Sys2Proof.Machine.execCfgD pattern s

end Sys2Proof.Machine
end

