-- ==== Sys2Proof/Machine/Step.lean ====
section
/-! DEFINITION. One step: the next event in the order of 00_scope.md R11 takes its whole effect. -/

namespace Sys2Proof.Machine

/-- One step. Nothing presented: the block waits (R41). Reset: R300. A stimulus that decodes: its operation.
An illegal word: `F_ILLEGAL` (R115, R270). -/
def step (s : State) : Host.Outcome State Fault Refusal :=
  match fetch s with
  | none => .next s
  | some (.reset, s') => .next s'.resetBlock
  | some (.op stimulus, s') =>
    match decode stimulus with
    | .ok i => exec i s'
    | .error _ => .next (illegalWord stimulus s')

/-- `s` with the instruction of an opcode-table word as its very next event (log 2, log 11). -/
def State.withFetchWord (s : State) (nbits w : Nat) : State := presentTableWord s nbits w

end Sys2Proof.Machine
end

