-- ==== Sys2Proof/Machine/Table.lean ====
section
/-! DEFINITION. spec/opcode_table.json as data (30_encoding.md R122): mnemonic, match and mask of every row. -/

namespace Sys2Proof.Machine

/-- A row of the opcode table over `n` bits: a word selects it iff `word & mask = pattern` (R122). -/
structure TableRow (n : Nat) where
  mnemonic : String
  pattern : BitVec n
  mask : BitVec n
deriving DecidableEq, Repr

/-- The word selects the row (R122). -/
def rowSelects {n : Nat} (r : TableRow n) (word : BitVec n) : Bool := word &&& r.mask == r.pattern

/-- CMD rows of the encoder, decoder and builders. -/
def cmdRowsCodec : List (TableRow 48) := [
  ⟨"BEGIN", 0x100000000000, 0xFF00FFFFFFFF⟩,
  ⟨"APPI", 0x110000000000, 0xFF0000000000⟩,
  ⟨"APPF", 0x120000000000, 0xFF0000000000⟩,
  ⟨"APPT", 0x130000000000, 0xFFFF00000000⟩,
  ⟨"SEAL", 0x140000000000, 0xFFFFFFFFFFFF⟩,
  ⟨"DHDR", 0x200000000000, 0xFFFFFFFFFFFF⟩,
  ⟨"VCHK", 0x210000000000, 0xFFFFFFFFFFFF⟩,
  ⟨"DTLV", 0x220000000000, 0xFFFF00000000⟩,
  ⟨"RXMSG", 0x2F0000000000, 0xFFFF00000000⟩,
  ⟨"BRC", 0x300000000000, 0xFFFF00000000⟩,
  ⟨"BCFG", 0x310000000000, 0xFFFFFFFFFFFF⟩]

/-- CMD rows of the input state machine. -/
def cmdRowsInput : List (TableRow 48) := [
  ⟨"KEYDN.THR_UP", 0x400000000000, 0xFFFFFFFFFFFF⟩,
  ⟨"KEYDN.THR_DOWN", 0x400100000000, 0xFFFFFFFFFFFF⟩,
  ⟨"KEYDN.ROLL_LEFT", 0x400200000000, 0xFFFFFFFFFFFF⟩,
  ⟨"KEYDN.ROLL_RIGHT", 0x400300000000, 0xFFFFFFFFFFFF⟩,
  ⟨"KEYDN.AUX1", 0x400400000000, 0xFFFFFFFFFFFF⟩,
  ⟨"KEYDN.AUX2", 0x400500000000, 0xFFFFFFFFFFFF⟩,
  ⟨"KEYDN.AUTO", 0x400600000000, 0xFFFFFFFFFFFF⟩,
  ⟨"KEYUP.THR_UP", 0x410000000000, 0xFFFFFFFFFFFF⟩,
  ⟨"KEYUP.THR_DOWN", 0x410100000000, 0xFFFFFFFFFFFF⟩,
  ⟨"KEYUP.ROLL_LEFT", 0x410200000000, 0xFFFFFFFFFFFF⟩,
  ⟨"KEYUP.ROLL_RIGHT", 0x410300000000, 0xFFFFFFFFFFFF⟩,
  ⟨"KEYUP.AUX1", 0x410400000000, 0xFFFFFFFFFFFF⟩,
  ⟨"KEYUP.AUX2", 0x410500000000, 0xFFFFFFFFFFFF⟩,
  ⟨"KEYUP.AUTO", 0x410600000000, 0xFFFFFFFFFFFF⟩,
  ⟨"SETSPD", 0x420000000000, 0xFFFF00000000⟩]

/-- CMD rows of the scheduler, the config path and the register read. -/
def cmdRowsRest : List (TableRow 48) := [
  ⟨"TMRSTART", 0x500000000000, 0xFFFFFFFFFFFF⟩,
  ⟨"TMRCANCEL", 0x510000000000, 0xFFFFFFFFFFFF⟩,
  ⟨"PAUSE", 0x520000000000, 0xFFFFFFFFFFFF⟩,
  ⟨"RESUME", 0x530000000000, 0xFFFFFFFFFFFF⟩,
  ⟨"CONNECT", 0x540000000000, 0xFFFFFFFFFFFF⟩,
  ⟨"DISCONNECT", 0x550000000000, 0xFFFFFFFFFFFF⟩,
  ⟨"MSPULSE", 0x560000000000, 0xFFFE00000000⟩,
  ⟨"SETP", 0x580000000000, 0xFFFF00000000⟩,
  ⟨"SETI", 0x590000000000, 0xFFFF00000000⟩,
  ⟨"SETD", 0x5A0000000000, 0xFFFF00000000⟩,
  ⟨"SENDCFG", 0x5B0000000000, 0xFFFEFFFFFFFF⟩,
  ⟨"RDREG", 0x600000000000, 0xFF00FFFFFFFF⟩]

/-- The 38 CMD rows, over the command word of R110. -/
def cmdTable : List (TableRow 48) := cmdRowsCodec ++ cmdRowsInput ++ cmdRowsRest

/-- The 2 FRAME rows, over the 24-bit start `f[0] | f[1] << 8 | f[2] << 16` of a wire frame. -/
def frameTable : List (TableRow 24) := [
  ⟨"RC", 0x010002, 0xFF00FF⟩,
  ⟨"CONFIG", 0x020002, 0xFF00FF⟩]

/-- The TLV rows within an RC frame, over the 16-bit start `id | size << 8` of a record. -/
def rcRecordTable : List (TableRow 16) := [
  ⟨"RC.THROTTLE", 0x0001, 0x00FF⟩,
  ⟨"RC.ROLL", 0x0000, 0x00FF⟩,
  ⟨"RC.AUX1", 0x0003, 0x00FF⟩,
  ⟨"RC.AUX2", 0x0004, 0x00FF⟩,
  ⟨"RC.TIMESTAMP", 0x0464, 0xFFFF⟩]

/-- The TLV rows within a Config frame. -/
def cfgRecordTable : List (TableRow 16) := [
  ⟨"CFG.P", 0x0401, 0xFFFF⟩,
  ⟨"CFG.I", 0x0402, 0xFFFF⟩,
  ⟨"CFG.D", 0x0403, 0xFFFF⟩]

/-- The 24-bit start of a wire frame (R122). -/
def frameStart (header length type : Byte) : BitVec 24 :=
  header.setWidth 24 ||| length.setWidth 24 <<< 8 ||| type.setWidth 24 <<< 16

/-- The 16-bit start of a record (R122). -/
def recordStart (id size : Byte) : BitVec 16 := id.setWidth 16 ||| size.setWidth 16 <<< 8

/-- The mnemonic of an instruction, as the table spells it. -/
def mnemonicOf : Instr → String
  | .beginFrame _ => "BEGIN"
  | .appi _ _ => "APPI"
  | .appf _ _ => "APPF"
  | .appt _ => "APPT"
  | .sealFrame => "SEAL"
  | .dhdr => "DHDR"
  | .vchk => "VCHK"
  | .dtlv _ => "DTLV"
  | .rxmsg _ => "RXMSG"
  | .brc _ => "BRC"
  | .bcfg => "BCFG"
  | .keydnThrUp => "KEYDN.THR_UP"
  | .keydnThrDown => "KEYDN.THR_DOWN"
  | .keydnRollLeft => "KEYDN.ROLL_LEFT"
  | .keydnRollRight => "KEYDN.ROLL_RIGHT"
  | .keydnAux1 => "KEYDN.AUX1"
  | .keydnAux2 => "KEYDN.AUX2"
  | .keydnAuto => "KEYDN.AUTO"
  | .keyupThrUp => "KEYUP.THR_UP"
  | .keyupThrDown => "KEYUP.THR_DOWN"
  | .keyupRollLeft => "KEYUP.ROLL_LEFT"
  | .keyupRollRight => "KEYUP.ROLL_RIGHT"
  | .keyupAux1 => "KEYUP.AUX1"
  | .keyupAux2 => "KEYUP.AUX2"
  | .keyupAuto => "KEYUP.AUTO"
  | .setspd _ => "SETSPD"
  | .tmrstart => "TMRSTART"
  | .tmrcancel => "TMRCANCEL"
  | .pause => "PAUSE"
  | .resume => "RESUME"
  | .connect => "CONNECT"
  | .disconnect => "DISCONNECT"
  | .mspulse _ _ => "MSPULSE"
  | .setp _ => "SETP"
  | .seti _ => "SETI"
  | .setd _ => "SETD"
  | .sendcfg _ => "SENDCFG"
  | .rdreg _ => "RDREG"
  | .rc _ _ => "RC"
  | .config _ _ => "CONFIG"
  | .rcThrottle _ _ => "RC.THROTTLE"
  | .rcRoll _ _ => "RC.ROLL"
  | .rcAux1 _ _ => "RC.AUX1"
  | .rcAux2 _ _ => "RC.AUX2"
  | .rcTimestamp _ => "RC.TIMESTAMP"
  | .cfgP _ => "CFG.P"
  | .cfgI _ => "CFG.I"
  | .cfgD _ => "CFG.D"

end Sys2Proof.Machine
end

