-- ==== Sys2Proof/Machine/Pseudo.lean ====
section
/-! DEFINITION. Sequences of operations, and the pseudo-operations of 30_encoding.md R121 as such sequences. None
has a command word. -/

namespace Sys2Proof.Machine

/-- The operations of a list one after another, each seeing the state the one before it left (R70). -/
def execAll : List Instr → State → Host.Outcome State Fault Refusal
  | [], s => .next s
  | i :: rest, s =>
    match exec i s with
    | .next t => execAll rest t
    | .fault r => .fault r
    | .refused r => .refused r

/-- The press of a key (R112). -/
def keyDown : Key → Instr
  | .thrUp => .keydnThrUp
  | .thrDown => .keydnThrDown
  | .rollLeft => .keydnRollLeft
  | .rollRight => .keydnRollRight
  | .aux1 => .keydnAux1
  | .aux2 => .keydnAux2
  | .auto => .keydnAuto

/-- The release of a key (R112). -/
def keyUp : Key → Instr
  | .thrUp => .keyupThrUp
  | .thrDown => .keyupThrDown
  | .rollLeft => .keyupRollLeft
  | .rollRight => .keyupRollRight
  | .aux1 => .keyupAux1
  | .aux2 => .keyupAux2
  | .auto => .keyupAuto

/-- `TAP k` (R121 (a)). -/
def tap (k : Key) : List Instr := [keyDown k, keyUp k]

/-- `WAIT n, t0, rdy`: `MSPULSE (t0+i) mod 2^32, rdy` for i = 1..n (R121 (b)). -/
def wait (n : Nat) (t0 : Word32) (ready : Bool) : List Instr :=
  (List.range n).map fun i => .mspulse (t0 + BitVec.ofNat 32 (i + 1)) ready

/-- `BUILDRC t` (R121 (d)), the channels being those of `s`. -/
def buildRc (s : State) (t : Word32) : List Instr :=
  [.beginFrame Config.ftRc,
    .appi Config.idThrottle (s.readReg .throttle), .appi Config.idRoll (s.readReg .roll),
    .appi Config.idAux1 (s.readReg .aux1), .appi Config.idAux2 (s.readReg .aux2),
    .appt t, .sealFrame]

/-- `BUILDCFG` (R121 (e)), the gains being those of `s`. -/
def buildCfg (s : State) : List Instr :=
  [.beginFrame Config.ftCfg,
    .appf Config.idP (s.readReg .cfgP), .appf Config.idI (s.readReg .cfgI),
    .appf Config.idD (s.readReg .cfgD), .sealFrame]

/-- The response in which the last operation ended. -/
def State.lastResponse (s : State) : Option Response := s.answers.getLast?.map Answer.response

/-- One operation of a sequence whose next operand depends on the response: the state it leaves and the
response it ends in. Every operation ends in one (R15), so there is always a result. -/
def issue (i : Instr) (s : State) : Option (State × Response) :=
  match exec i s with
  | .next t => t.lastResponse.map fun r => (t, r)
  | .fault _ => none
  | .refused _ => none

/-- The loop of `DECODE` (R121 (c), R162): `DTLV o` from offset `o` until `o` is the checksum index `last`,
each operation issued on the state the one before it left and the next offset taken from `d1[31:16]` of
its response; the state left and the responses, stopping after the first that is not `OK`. At most `fuel`
operations. -/
def decodeLoop (last : Nat) : Nat → Nat → State → State × List Response
  | 0, _, s => (s, [])
  | fuel + 1, o, s =>
    if o = last then (s, [])
    else
      match issue (.dtlv (BitVec.ofNat 32 o)) s with
      | some (t, r) =>
        if r.st = .ok then
          let rest := decodeLoop last fuel (r.d1 >>> 16).toNat t
          (rest.1, r :: rest.2)
        else (t, [r])
      | none => (s, [])

/-- The length that the response of `DHDR` reports: `d0[15:8]` (R154). -/
def lengthOfResponse (r : Response) : Nat := (r.d0.extractLsb' 8 8).toNat

/-- The most operations the loop of `DECODE` can issue: 84 records (R162) and one `DTLV` that fails. -/
def decodeFuel : Nat := 85

/-- `DECODE` (R121 (c)): `DHDR`; `VCHK`; then the loop from offset 3 to the index `2 + length`, the length being
that of `DHDR`'s response. The state left and the responses in order. It stops after the first response
that is not `OK`, and after a `VCHK` that does not give 1, as R162 asks ("must give 1"; log 21). -/
def decodeMessageOps (s : State) : State × List Response :=
  match issue .dhdr s with
  | none => (s, [])
  | some (t, header) =>
    if header.st = .ok then
      match issue .vchk t with
      | none => (t, [header])
      | some (u, check) =>
        if check.st = .ok ∧ check.d0 = 1 then
          let records := decodeLoop (2 + lengthOfResponse header) decodeFuel 3 u
          (records.1, header :: check :: records.2)
        else (u, [header, check])
    else (t, [header])

/-- The record that a successful `DTLV` response carries: `d0` the value, `d1[7:0]` the id, `d1[15:8]` the
size (R160). -/
def recordOfResponse (r : Response) : Record :=
  ⟨r.d1.extractLsb' 0 8, r.d1.extractLsb' 8 8, r.d0⟩

end Sys2Proof.Machine
end

