-- ==== Sys2Proof/Safety.lean ====
section
/-! DEFINITION. What a safe run is: the invariants the spec says hold after reset and after every operation
(10_state.md R29, R31, R32, R37; 20_memory.md R69), in the terms the statements use. -/

namespace Sys2Proof.Machine

/-- The channels and limits of R37: throttle and roll in 1000..2000, each aux 1000 or 2000, the limit at
most 500, the tick count at most 49, and in AUTO `AUX2` is 2000 and the throttle `1500 - S`. -/
def State.channelInv (s : State) : Bool :=
  decide (1000 ≤ s.throttle.toNat ∧ s.throttle.toNat ≤ 2000) &&
  decide (1000 ≤ s.roll.toNat ∧ s.roll.toNat ≤ 2000) &&
  decide (s.aux1 = Config.auxLow ∨ s.aux1 = Config.auxHigh) &&
  decide (s.aux2 = Config.auxLow ∨ s.aux2 = Config.auxHigh) &&
  decide (s.speedLimit.toNat ≤ 500) &&
  decide (s.tickCnt.toNat ≤ 49) &&
  (!s.auto || decide (s.aux2 = Config.auxHigh ∧ s.throttle = neutralMinus s.speedLimit))

/-- The stopped timer holds 0 (R220, R221, R226 (a)). -/
def State.timerInv (s : State) : Bool := s.run || decide (s.tickCnt = 0)

/-- The write cursor of R29: 3..255 while a builder is open, 0 while none is. -/
def State.cursorInv (s : State) : Bool :=
  if s.encOpen then decide (3 ≤ s.wcur.toNat) else decide (s.wcur = 0)

/-- The content of an open builder (R61): the header byte at index 0, and from index 3 up to `wcur` a
record area that the decoder's walk accepts. -/
def State.builderInv (s : State) : Bool :=
  !s.encOpen ||
    (s.ebByte 0 == Config.stx &&
      match recordsOf s.ebByte s.wcur.toNat with
      | .ok _ => true
      | .error _ => false)

/-- `RXLEN` and `RXSTAT` tell what the last `RXMSG` found in `RX` (R31, R32): before any, all are 0. -/
def State.rxInv (s : State) : Bool :=
  decide (s.rxLen.toNat ≤ 259) &&
  if s.rxLoaded then
    match s.decodeRx with
    | .ok (type, _) => s.rxOk && s.rxCause == none && s.rxFtype == type
    | .error c => !s.rxOk && s.rxCause == some c && s.rxFtype == 0
  else s.rxLen == 0 && !s.rxOk && s.rxCause == none && s.rxFtype == 0

/-- The byte spaces have their canonical form, and no byte outside `EB[0..255]` or beyond the stored part
of the last message was written (R60, R69). -/
def State.memoryInv (s : State) : Bool :=
  s.eb.wf && s.rx.wf && s.eb.all (fun c => decide (c.1 < 256)) &&
  s.rx.all (fun c => decide (c.1 < min s.rxLen.toNat 258))

/-- Every byte an operation may read was written: `EB[0 .. wcur)` of an open builder, and the stored part
of the last message (R69). -/
def State.writtenInv (s : State) : Bool :=
  (!s.encOpen || (List.range s.wcur.toNat).all fun i => (s.eb.get i).isSome) &&
  (List.range (min s.rxLen.toNat 258)).all fun i => (s.rx.get i).isSome

/-- A safe state: all of the above. -/
def State.Inv (s : State) : Bool :=
  s.channelInv && s.timerInv && s.cursorInv && s.builderInv && s.rxInv && s.memoryInv && s.writtenInv

/-- The agent that issues an instruction (R111, column agent; wire items come from the transport). -/
def issuerOf : Instr → Agent
  | .rxmsg _ | .connect | .disconnect | .rc _ _ | .config _ _ | .rcThrottle _ _ | .rcRoll _ _
  | .rcAux1 _ _ | .rcAux2 _ _ | .rcTimestamp _ | .cfgP _ | .cfgI _ | .cfgD _ => .transport
  | .mspulse _ _ => .timeBase
  | .beginFrame _ | .appi _ _ | .appf _ _ | .appt _ | .sealFrame | .dhdr | .vchk | .dtlv _
  | .brc _ | .bcfg | .keydnThrUp | .keydnThrDown | .keydnRollLeft | .keydnRollRight | .keydnAux1
  | .keydnAux2 | .keydnAuto | .keyupThrUp | .keyupThrDown | .keyupRollLeft | .keyupRollRight
  | .keyupAux1 | .keyupAux2 | .keyupAuto | .setspd _ | .tmrstart | .tmrcancel | .pause | .resume
  | .setp _ | .seti _ | .setd _ | .sendcfg _ | .rdreg _ => .host

/-- The operations of the input state machine, the only writers of the channels (R38). -/
def isInputOp : Instr → Bool
  | .keydnThrUp | .keydnThrDown | .keydnRollLeft | .keydnRollRight | .keydnAux1 | .keydnAux2
  | .keydnAuto | .keyupThrUp | .keyupThrDown | .keyupRollLeft | .keyupRollRight | .keyupAux1
  | .keyupAux2 | .keyupAuto | .setspd _ => true
  | .beginFrame _ | .appi _ _ | .appf _ _ | .appt _ | .sealFrame | .dhdr | .vchk | .dtlv _
  | .rxmsg _ | .brc _ | .bcfg | .tmrstart | .tmrcancel | .pause | .resume | .connect
  | .disconnect | .mspulse _ _ | .setp _ | .seti _ | .setd _ | .sendcfg _ | .rdreg _ | .rc _ _
  | .config _ _ | .rcThrottle _ _ | .rcRoll _ _ | .rcAux1 _ _ | .rcAux2 _ _ | .rcTimestamp _
  | .cfgP _ | .cfgI _ | .cfgD _ => false

/-- The operations of the encoder, the only writers of `EB` and `ENCSTAT` (R30, R60). -/
def isEncoderOp : Instr → Bool
  | .beginFrame _ | .appi _ _ | .appf _ _ | .appt _ | .sealFrame => true
  | .dhdr | .vchk | .dtlv _ | .rxmsg _ | .brc _ | .bcfg | .keydnThrUp | .keydnThrDown
  | .keydnRollLeft | .keydnRollRight | .keydnAux1 | .keydnAux2 | .keydnAuto | .keyupThrUp
  | .keyupThrDown | .keyupRollLeft | .keyupRollRight | .keyupAux1 | .keyupAux2 | .keyupAuto
  | .setspd _ | .tmrstart | .tmrcancel | .pause | .resume | .connect | .disconnect | .mspulse _ _
  | .setp _ | .seti _ | .setd _ | .sendcfg _ | .rdreg _ | .rc _ _ | .config _ _ | .rcThrottle _ _
  | .rcRoll _ _ | .rcAux1 _ _ | .rcAux2 _ _ | .rcTimestamp _ | .cfgP _ | .cfgI _ | .cfgD _ => false

/-- The operations by which a message arrives, the only writers of `RX`, `RXLEN`, `RXSTAT` (R31, R60). -/
def isReceiveOp : Instr → Bool
  | .rxmsg _ | .rc _ _ | .config _ _ | .rcThrottle _ _ | .rcRoll _ _ | .rcAux1 _ _ | .rcAux2 _ _
  | .rcTimestamp _ | .cfgP _ | .cfgI _ | .cfgD _ => true
  | .beginFrame _ | .appi _ _ | .appf _ _ | .appt _ | .sealFrame | .dhdr | .vchk | .dtlv _
  | .brc _ | .bcfg | .keydnThrUp | .keydnThrDown | .keydnRollLeft | .keydnRollRight | .keydnAux1
  | .keydnAux2 | .keydnAuto | .keyupThrUp | .keyupThrDown | .keyupRollLeft | .keyupRollRight
  | .keyupAux1 | .keyupAux2 | .keyupAuto | .setspd _ | .tmrstart | .tmrcancel | .pause | .resume
  | .connect | .disconnect | .mspulse _ _ | .setp _ | .seti _ | .setd _ | .sendcfg _ | .rdreg _ => false

/-- The operations that only read (R68, R181, R184): no register, buffer or stream changes. -/
def isReadOp : Instr → Bool
  | .dhdr | .vchk | .dtlv _ | .brc _ | .bcfg | .rdreg _ => true
  | .beginFrame _ | .appi _ _ | .appf _ _ | .appt _ | .sealFrame | .rxmsg _ | .keydnThrUp
  | .keydnThrDown | .keydnRollLeft | .keydnRollRight | .keydnAux1 | .keydnAux2 | .keydnAuto
  | .keyupThrUp | .keyupThrDown | .keyupRollLeft | .keyupRollRight | .keyupAux1 | .keyupAux2
  | .keyupAuto | .setspd _ | .tmrstart | .tmrcancel | .pause | .resume | .connect | .disconnect
  | .mspulse _ _ | .setp _ | .seti _ | .setd _ | .sendcfg _ | .rc _ _ | .config _ _
  | .rcThrottle _ _ | .rcRoll _ _ | .rcAux1 _ _ | .rcAux2 _ _ | .rcTimestamp _ | .cfgP _
  | .cfgI _ | .cfgD _ => false

/-- The record that an append adds (R132 to R134); no other operation adds one. -/
def appendedRecord : Instr → Option Record
  | .appi id value => some ⟨id, BitVec.ofNat 8 (intSize value), value⟩
  | .appf id pattern => some ⟨id, 4, pattern⟩
  | .appt value => some ⟨100, 4, value⟩
  | .beginFrame _ | .sealFrame | .dhdr | .vchk | .dtlv _ | .rxmsg _ | .brc _ | .bcfg
  | .keydnThrUp | .keydnThrDown | .keydnRollLeft | .keydnRollRight | .keydnAux1 | .keydnAux2
  | .keydnAuto | .keyupThrUp | .keyupThrDown | .keyupRollLeft | .keyupRollRight | .keyupAux1
  | .keyupAux2 | .keyupAuto | .setspd _ | .tmrstart | .tmrcancel | .pause | .resume | .connect
  | .disconnect | .mspulse _ _ | .setp _ | .seti _ | .setd _ | .sendcfg _ | .rdreg _ | .rc _ _
  | .config _ _ | .rcThrottle _ _ | .rcRoll _ _ | .rcAux1 _ _ | .rcAux2 _ _ | .rcTimestamp _
  | .cfgP _ | .cfgI _ | .cfgD _ => none

/-- The bytes of a record on the wire: id, size, and the value little-endian in `size` bytes (R94). -/
def recordBytes (r : Record) : List Byte := [r.id, r.size] ++ leBytes r.size.toNat r.value

/-- A record of the format: size 1, 2 or 4, and a value that fits (R94, R95). -/
def recordWf (r : Record) : Bool :=
  decide ((r.size = 1 ∨ r.size = 2 ∨ r.size = 4) ∧ r.value.toNat < 256 ^ r.size.toNat)

/-- The acceptance test without the record area: header byte, a length byte that is not 0 and counts the
message exactly, and the XOR of the body (R93, R156). -/
def SoundMessage (byte : Nat → Byte) (n : Nat) : Prop :=
  4 ≤ n ∧ byte 0 = 0x02 ∧ byte 1 ≠ 0 ∧ n = (byte 1).toNat + 3 ∧
    xorBytes (slice byte 2 (n - 1)) = byte (n - 1)

/-- The number of pulses in a sequence of operations. -/
def pulsesIn (is : List Instr) : Nat := is.countP fun i => issuerOf i == .timeBase

/-- The state with one more response of `agent` and nothing else changed. -/
def State.answered (s : State) (agent : Agent) (st : Status) (d0 d1 : Word32) (f : List Byte) : State :=
  { s with answers := s.answers ++ [⟨agent, ⟨st, d0, d1, f⟩⟩] }

/-- The instruction is an append of the record `record` (R131): on a block that is not halted, a closed
builder is the fault `F_NOT_OPEN`; an open one without space is `EncodeOverflow`, which closes it and
writes no byte; with space the record's bytes are written from `wcur` on, `wcur` advances by their
number and is the response's `d0`, and everything else is as it was. -/
def Appends (i : Instr) (record : List Byte) : Prop :=
  ∀ s : State, s.halted = false →
    (s.encOpen = false →
      exec i s = .next ({ s with fNotOpen := true }.answered .host .fault 2 0 [])) ∧
    (s.encOpen = true → 255 < s.wcur.toNat + record.length →
      exec i s = .next
        ({ s with encOpen := false, wcur := 0 }.answered .host .encodeOverflow 0 0 [])) ∧
    (s.encOpen = true → s.wcur.toNat + record.length ≤ 255 →
      ∃ m : Memory,
        exec i s = .next
          ({ s with eb := m, wcur := BitVec.ofNat 8 (s.wcur.toNat + record.length) }.answered .host
            .ok (BitVec.ofNat 32 (s.wcur.toNat + record.length)) 0 []) ∧
        (∀ k b, record[k]? = some b → { s with eb := m }.ebByte (s.wcur.toNat + k) = b) ∧
        (∀ a, a < s.wcur.toNat ∨ s.wcur.toNat + record.length ≤ a →
          { s with eb := m }.ebByte a = s.ebByte a))

/-- The instruction is the arrival of the message `bytes` (R31, R150): on a block that is not halted it
answers a next state in which only `RX`, `RXLEN`, `RXSTAT` and the outputs differ; `RX` holds the first
258 bytes, `RXLEN` the count up to 259; the message's decode gives `RXSTAT` and the one item pushed. -/
def Receives (i : Instr) (bytes : List Byte) : Prop :=
  ∀ s : State, s.halted = false → ∃ t : State,
    exec i s = .next t ∧
    t = { s with
      rx := t.rx
      rxLen := BitVec.ofNat 9 (min bytes.length 259)
      rxLoaded := true
      rxOk := t.rxOk
      rxCause := t.rxCause
      rxFtype := t.rxFtype
      rxOut := t.rxOut
      answers := s.answers ++ [⟨.transport, ⟨.ok, 0, 0, []⟩⟩] } ∧
    (∀ k, k < min bytes.length 258 → some (t.rxByte k) = bytes[k]?) ∧
    (match decodeMessage (byteAt bytes) bytes.length with
      | .ok (type, records) =>
        t.rxOk = true ∧ t.rxCause = none ∧ t.rxFtype = type ∧
          t.rxOut = s.rxOut ++ [.frame type records]
      | .error c =>
        t.rxOk = false ∧ t.rxCause = some c ∧ t.rxFtype = 0 ∧ t.rxOut = s.rxOut ++ [.dropped c])

end Sys2Proof.Machine
end

