-- ==== Sys2Proof/Certificates/Slice0/Obligations.lean ====
section
/-! DEFINITION. The statements about TLVFE for the provers. Each docstring names the rules of spec/ it formalises;
where a clause rests on a choice of the model, it names the log entry. -/

open Sys2Proof Sys2Proof.Machine

/-! ### Encodings -/

/-- Every well-formed instruction, with every operand at every value its encoding admits, is read back from
the bits that present it (R110, R111, R112, R40, R91, R94 to R97). -/
def Obligations.DecodeInvertsEncode : Prop :=
  ∀ i : Instr, i.wf = true → decode (encode i) = .ok i

/-- A legal command word is the encoding of the instruction it decodes to: no bit of it is ignored, so no two
words present one instruction (R110, R111, R115). Only `RXMSG` has message bytes (R114; log 19). -/
def Obligations.EncodeInvertsDecodeOnCommands : Prop :=
  ∀ (w : Command) (bytes : List Byte) (i : Instr),
    (bytes = [] ∨ opField w = 0x2F) → decode (.command w bytes) = .ok i →
      encode i = .command w bytes

/-- R115: the illegal words are exactly those of its conditions (a) to (f), and one changes no state but
`F_ILLEGAL`, with the response `FAULT` (R267) whose `d0` is the new `FAULT`, halted or not (R270). The agent that
this response is labelled with, `issuer w`, is the model's own reading and no rule of the spec: log 10. -/
def Obligations.IllegalWordsFault : Prop :=
  (∀ (w : Command) (bytes : List Byte),
    (∃ e, decode (.command w bytes) = .error e) ↔
      (opField w ∉ ([0x10, 0x11, 0x12, 0x13, 0x14, 0x20, 0x21, 0x22, 0x2F, 0x30, 0x31, 0x40, 0x41, 0x42,
          0x50, 0x51, 0x52, 0x53, 0x54, 0x55, 0x56, 0x58, 0x59, 0x5A, 0x5B, 0x60] : List Byte)) ∨
      (opField w ∈ ([0x13, 0x14, 0x20, 0x21, 0x22, 0x2F, 0x30, 0x31, 0x42, 0x50, 0x51, 0x52, 0x53, 0x54,
          0x55, 0x58, 0x59, 0x5A] : List Byte) ∧ aField w ≠ 0) ∨
      (opField w ∈ ([0x10, 0x14, 0x20, 0x21, 0x31, 0x40, 0x41, 0x50, 0x51, 0x52, 0x53, 0x54, 0x55, 0x5B,
          0x60] : List Byte) ∧ vField w ≠ 0) ∨
      ((opField w = 0x40 ∨ opField w = 0x41) ∧ 6 < (aField w).toNat) ∨
      ((opField w = 0x56 ∨ opField w = 0x5B) ∧ w.extractLsb' 33 7 ≠ 0) ∨
      (opField w = 0x60 ∧ aField w ∉ ([0x00, 0x01, 0x02, 0x03, 0x04, 0x05, 0x06, 0x08, 0x09, 0x0A, 0x10,
          0x11, 0x18, 0x20, 0x21, 0x30] : List Byte)) ∨
      (opField w = 0x2F ∧ (vField w).toNat ≠ bytes.length)) ∧
  (∀ (s : State) (w : Command) (bytes : List Byte) (rest : List Event) (e : Reject),
    s.inputs = .op (.command w bytes) :: rest → decode (.command w bytes) = .error e →
      step s = .next ({ s with inputs := rest, fIllegal := true }.answered (issuer w) .fault
        { s with fIllegal := true }.faultWord 0 []))

/-- R122 and the last sentence of R115: a word is legal iff it selects a CMD row of the table and meets
conditions (e), an `RDREG` names an assigned register, and (f), the `v` of an `RXMSG` counts its bytes; the
instruction is that row's; and no word selects two rows. -/
def Obligations.LegalWordsSelectTheirTableRow : Prop :=
  (∀ (w : Command) (bytes : List Byte) (i : Instr), decode (.command w bytes) = .ok i →
    (∃ r ∈ cmdTable, rowSelects r w = true ∧ r.mnemonic = mnemonicOf i) ∧
    (opField w = 0x60 → ∃ reg : Reg, aField w = reg.number) ∧
    (opField w = 0x2F → (vField w).toNat = bytes.length)) ∧
  (∀ (w : Command) (bytes : List Byte) (r : TableRow 48), r ∈ cmdTable → rowSelects r w = true →
    (opField w = 0x60 → ∃ reg : Reg, aField w = reg.number) →
    (opField w = 0x2F → (vField w).toNat = bytes.length) →
    ∃ i, decode (.command w bytes) = .ok i ∧ mnemonicOf i = r.mnemonic) ∧
  (∀ (w : Command) (r r' : TableRow 48), r ∈ cmdTable → r' ∈ cmdTable →
    rowSelects r w = true → rowSelects r' w = true → r = r')

/-- A few command words, wire messages and records of 95_test_vectors.md, read as the instruction that file
names beside them. A sanity statement. -/
def Obligations.SpecWordsDecode : Prop :=
  decode (.command 0x1107000000FF []) = .ok (.appi 7 255) ∧
  decode (.command 0x1300000003E8 []) = .ok (.appt 1000) ∧
  decode (.command 0x22000000000A []) = .ok (.dtlv 10) ∧
  decode (.command 0x2F0000000004 [0x02, 0x01, 0x01, 0x01]) = .ok (.rxmsg [0x02, 0x01, 0x01, 0x01]) ∧
  decode (.command 0x300012345678 []) = .ok (.brc 0x12345678) ∧
  decode (.command 0x410600000000 []) = .ok .keyupAuto ∧
  decode (.command 0x56010000041A []) = .ok (.mspulse 1050 true) ∧
  decode (.command 0x603000000000 []) = .ok (.rdreg .fault) ∧
  decode (.frame [0x02, 0x05, 0x01, 0x07, 0x02, 0x00, 0x01, 0x05]) =
    .ok (.rc 5 [0x07, 0x02, 0x00, 0x01, 0x05]) ∧
  decode (.record 0x01 [0x01, 0x02, 0xDC, 0x05]) = .ok (.rcThrottle 2 [0xDC, 0x05]) ∧
  decode (.record 0x02 [0x01, 0x04, 0x00, 0x00, 0x80, 0x3F]) = .ok (.cfgP 0x3F800000)

/-! ### The step, reset, invariants -/

/-- When what is presented next decodes to an instruction, the step is that instruction's meaning on the state
with the event taken. Nothing else happens around it: there is no program counter (R28). With nothing
presented the block waits (R41; log 2 for the list of inputs). -/
def Obligations.StepRunsTheDecodedInstruction : Prop :=
  (∀ (s : State) (st : Stimulus) (rest : List Event) (i : Instr),
    s.inputs = .op st :: rest → decode st = .ok i → step s = exec i { s with inputs := rest }) ∧
  (∀ s : State, s.inputs = [] → step s = .next s)

/-- R300 and R41: reset puts every register at its reset value from any state, halted or not, and recalls nothing
already pushed; the reset state itself has those values; it is the only way out of the halted state. R300 leaves
the contents of `EB` and `RX` unspecified; that every byte of them then reads as the free value of its index is the
model's choice (log 5), and so are the lists that hold what is presented, answered and pushed (logs 2, 3). -/
def Obligations.ResetRestoresEveryRegister : Prop :=
  (∀ (s : State) (rest : List Event), s.inputs = .reset :: rest → ∃ t : State, step s = .next t ∧
    (∀ r : State, r = t ∨ r = State.reset →
      r.throttle = 1500 ∧ r.roll = 1500 ∧ r.aux1 = 1000 ∧ r.aux2 = 1000 ∧ r.speedLimit = 0 ∧
      r.auto = false ∧ r.heldAuto = false ∧ r.heldAux2 = false ∧ r.cfgP = 0 ∧ r.cfgI = 0 ∧ r.cfgD = 0 ∧
      r.run = false ∧ r.paused = false ∧ r.connected = false ∧ r.tickCnt = 0 ∧ r.encOpen = false ∧
      r.wcur = 0 ∧ r.rxLoaded = false ∧ r.rxOk = false ∧ r.rxCause = none ∧ r.rxFtype = 0 ∧
      r.rxLen = 0 ∧ r.fReentrant = false ∧ r.fNotOpen = false ∧ r.fIllegal = false ∧
      r.mode = 0 ∧ r.halted = false ∧
      ∀ a, r.ebByte a = Config.ebResidue a ∧ r.rxByte a = Config.rxResidue a) ∧
    State.reset.txOut = [] ∧ State.reset.rxOut = [] ∧
    t.inputs = rest ∧ t.answers = s.answers ∧ t.txOut = s.txOut ∧ t.rxOut = s.rxOut) ∧
  (∀ s t : State, s.halted = true → step s = .next t → t.halted = false →
    ∃ rest, s.inputs = .reset :: rest)

/-- The invariants hold at reset (R37, R29, R31, R32). -/
def Obligations.InvariantHoldsAtReset : Prop := State.reset.Inv = true

/-- The invariants of R37 (channels, limits, AUTO), R29 (write cursor), R31 and R32 (receive status) and R61, R69
(builder content, buffer bounds, canonical form of the byte spaces) hold after every step from any state in
which they hold: every operation, an illegal word, a refused operation of the halted block, and reset. -/
def Obligations.StepKeepsTheInvariant : Prop :=
  ∀ s t : State, s.Inv = true → step s = .next t → t.Inv = true

/-- R15 and R260: every operation completes, and ends in exactly one response, of the agent that issued it;
`d1` and the frame are empty unless the status is `OK`. -/
def Obligations.EveryOperationAnswersOnce : Prop :=
  ∀ (i : Instr) (s : State), ∃ (t : State) (r : Response),
    exec i s = .next t ∧ t.answers = s.answers ++ [⟨issuerOf i, r⟩] ∧ t.inputs = s.inputs ∧
    (r.st ≠ .ok → r.d1 = 0 ∧ r.frame = [])

/-! ### Faults -/

/-- R268: while halted every operation but `RDREG` only answers `FAULT`; `RDREG` reads as usual; an illegal word
still sets `F_ILLEGAL`; and no operation leaves the halted state. -/
def Obligations.HaltedBlockOnlyAnswers : Prop :=
  ∀ s : State, s.halted = true →
    (∀ i : Instr, (∀ r, i ≠ .rdreg r) →
      exec i s = .next (s.answered (issuerOf i) .fault s.faultWord 0 [])) ∧
    (∀ r : Reg, exec (.rdreg r) s = .next (s.answered .host .ok (s.readReg r) 0 [])) ∧
    (∀ (st : Stimulus) (rest : List Event) (e : Reject),
      s.inputs = .op st :: rest → decode st = .error e →
        ∃ t, step s = .next t ∧ t.fIllegal = true ∧
          t = { s with inputs := rest, fIllegal := true, answers := t.answers }) ∧
    (∀ t : State, s.inputs.head? ≠ some .reset → step s = .next t → t.halted = true)

/-- R33, R267 and R272: `F_REENTRANT` is set by `BEGIN` while a builder is open, `F_NOT_OPEN` by an append or
`SEAL` while none is, on a block that is not halted; no operation sets another bit, and none clears one. -/
def Obligations.OnlyTheNamedOperationsFault : Prop :=
  ∀ (i : Instr) (s t : State), exec i s = .next t →
    (t.fReentrant = true ↔
      s.fReentrant = true ∨ (s.halted = false ∧ s.encOpen = true ∧ ∃ ty, i = .beginFrame ty)) ∧
    (t.fNotOpen = true ↔
      s.fNotOpen = true ∨ (s.halted = false ∧ s.encOpen = false ∧
        ((∃ id v, i = .appi id v) ∨ (∃ id v, i = .appf id v) ∨ (∃ v, i = .appt v) ∨ i = .sealFrame))) ∧
    t.fIllegal = s.fIllegal

/-- R113 and R264: the codes of the statuses and of the causes. -/
def Obligations.StatusAndCauseCodes : Prop :=
  Status.ok.code = 0x00 ∧ Status.encodeOverflow.code = 0x01 ∧ Status.decodeError.code = 0x02 ∧
  Status.transportUnavailable.code = 0x03 ∧ Status.rangeError.code = 0x04 ∧
  Status.dropped.code = 0x05 ∧ Status.fault.code = 0x06 ∧
  causeCode none = 0 ∧ Cause.truncated.code = 1 ∧ Cause.badStx.code = 2 ∧
  Cause.lengthMismatch.code = 3 ∧ Cause.checksum.code = 4 ∧ Cause.tlvOffset.code = 5 ∧
  Cause.tlvSizeUnreadable.code = 6 ∧ Cause.tlvBadSize.code = 7 ∧ Cause.tlvOverrun.code = 8

/-! ### Encoder -/

/-- R130: `BEGIN` on a block that is not halted opens a builder, or, with one open, is the fault `F_REENTRANT`
with everything else as it was. The only bytes written are `EB[0..2]`. -/
def Obligations.BeginOpensABuilder : Prop :=
  ∀ ty : Byte, decode (.command (commandWord 0x10 ty 0) []) = .ok (.beginFrame ty) ∧
  ∀ s : State, s.halted = false →
    (s.encOpen = true → exec (.beginFrame ty) s =
      .next ({ s with fReentrant := true }.answered .host .fault 1 0 [])) ∧
    (s.encOpen = false → ∃ m : Memory,
      exec (.beginFrame ty) s =
        .next ({ s with eb := m, wcur := 3, encOpen := true }.answered .host .ok 0 0 []) ∧
      { s with eb := m }.ebByte 0 = 0x02 ∧ { s with eb := m }.ebByte 1 = 0x00 ∧
      { s with eb := m }.ebByte 2 = ty ∧
      ∀ a, 3 ≤ a → { s with eb := m }.ebByte a = s.ebByte a)

/-- R132 with R95 and R131: `APPI` appends the smallest of the three records that holds the value, little-endian,
at `wcur`, where it fits; `EncodeOverflow` and `F_NOT_OPEN` otherwise (`Appends`). -/
def Obligations.AppiAppendsTheSmallestRecord : Prop :=
  ∀ (id : Byte) (v : Word32),
    decode (.command (commandWord 0x11 id v) []) = .ok (.appi id v) ∧
    (v.toNat ≤ 0xFF → Appends (.appi id v) [id, 1, v.extractLsb' 0 8]) ∧
    (0xFF < v.toNat → v.toNat ≤ 0xFFFF →
      Appends (.appi id v) [id, 2, v.extractLsb' 0 8, v.extractLsb' 8 8]) ∧
    (0xFFFF < v.toNat →
      Appends (.appi id v)
        [id, 4, v.extractLsb' 0 8, v.extractLsb' 8 8, v.extractLsb' 16 8, v.extractLsb' 24 8])

/-- R133 with R131: `APPF` appends id, size 4 and the pattern bit for bit, little-endian, whatever the pattern. -/
def Obligations.AppfAppendsThePattern : Prop :=
  ∀ (id : Byte) (v : Word32),
    decode (.command (commandWord 0x12 id v) []) = .ok (.appf id v) ∧
    Appends (.appf id v)
      [id, 4, v.extractLsb' 0 8, v.extractLsb' 8 8, v.extractLsb' 16 8, v.extractLsb' 24 8]

/-- R134 with R131: `APPT` appends the record of id 100 and size 4, whatever the value. -/
def Obligations.ApptAppendsTheTimestamp : Prop :=
  ∀ v : Word32,
    decode (.command (commandWord 0x13 0 v) []) = .ok (.appt v) ∧
    Appends (.appt v)
      [100, 4, v.extractLsb' 0 8, v.extractLsb' 8 8, v.extractLsb' 16 8, v.extractLsb' 24 8]

/-- R135: `SEAL` of an open builder patches the length byte, writes the checksum at `wcur`, returns the
`wcur + 1` bytes and closes the builder; with none open it is the fault `F_NOT_OPEN`. -/
def Obligations.SealFinishesTheFrame : Prop :=
  decode (.command 0x140000000000 []) = .ok .sealFrame ∧
  ∀ s : State, s.halted = false →
    (s.encOpen = false →
      exec .sealFrame s = .next ({ s with fNotOpen := true }.answered .host .fault 2 0 [])) ∧
    (s.encOpen = true → 3 ≤ s.wcur.toNat → ∃ (m : Memory) (f : List Byte),
      exec .sealFrame s =
        .next ({ s with eb := m, encOpen := false, wcur := 0 }.answered .host .ok
          (BitVec.ofNat 32 (s.wcur.toNat + 1)) 0 f) ∧
      f = [s.ebByte 0, BitVec.ofNat 8 (s.wcur.toNat - 2)] ++ slice s.ebByte 2 s.wcur.toNat ++
        [xorBytes (slice s.ebByte 2 s.wcur.toNat)] ∧
      { s with eb := m }.ebByte 1 = BitVec.ofNat 8 (s.wcur.toNat - 2) ∧
      { s with eb := m }.ebByte s.wcur.toNat = xorBytes (slice s.ebByte 2 s.wcur.toNat) ∧
      ∀ a, a ≠ 1 → a ≠ s.wcur.toNat → { s with eb := m }.ebByte a = s.ebByte a)

/-- R121 (d), (e) and R180: the sequences `BUILDRC` and `BUILDCFG` end in a response with the very frame that
`BRC` and `BCFG` return, for channels of any value. -/
def Obligations.BuildSequencesMatchTheBuilders : Prop :=
  ∀ (s : State) (t : Word32), s.halted = false → s.encOpen = false →
    (∃ u v : State, execAll (buildRc s t) s = .next u ∧ exec (.brc t) s = .next v ∧
      u.lastResponse.map Response.frame = some (s.rcFrame t) ∧
      v.lastResponse.map Response.frame = some (s.rcFrame t)) ∧
    (∃ u v : State, execAll (buildCfg s) s = .next u ∧ exec .bcfg s = .next v ∧
      u.lastResponse.map Response.frame = some s.cfgFrame ∧
      v.lastResponse.map Response.frame = some s.cfgFrame)

/-- R136 (a): in every state that meets the invariants, the frame that `SEAL` returns is accepted when it
arrives as a message: `RXSTAT.ok` is 1 and a `Frame` of the builder's type is pushed. -/
def Obligations.SealedFramesAreAccepted : Prop :=
  ∀ s : State, s.Inv = true → s.halted = false → s.encOpen = true →
    ∃ (t u : State) (f : List Byte) (records : List Record),
      exec .sealFrame s = .next t ∧
      t.lastResponse = some ⟨.ok, BitVec.ofNat 32 f.length, 0, f⟩ ∧
      exec (.rxmsg f) t = .next u ∧ u.rxOk = true ∧
      u.rxOut = t.rxOut ++ [.frame (s.ebByte 2) records]

/-- R136 (b) and R166 for `SEAL`: a builder's frame, fed back as a message, is delivered with its type and, in
order, one record per append with the same id, size and value. -/
def Obligations.AppendedRecordsRoundTrip : Prop :=
  ∀ (s : State) (ty : Byte) (appends : List Instr) (records : List Record),
    s.halted = false → s.encOpen = false →
    appends.map appendedRecord = records.map some →
    (records.flatMap recordBytes).length ≤ 252 →
    ∃ (t u : State) (f : List Byte),
      execAll ([.beginFrame ty] ++ appends ++ [.sealFrame]) s = .next t ∧
      t.lastResponse = some ⟨.ok, BitVec.ofNat 32 f.length, 0, f⟩ ∧
      f = frame ty (records.flatMap recordBytes) ∧
      exec (.rxmsg f) t = .next u ∧ u.rxOut = s.rxOut ++ [.frame ty records]

/-! ### Decoder -/

/-- R31 and R150: what an inbound message does (`Receives`): loaded, decoded, reported as one item; nothing else
changes. -/
def Obligations.RxmsgLoadsAndReports : Prop :=
  ∀ bytes : List Byte, Receives (.rxmsg bytes) bytes

/-- The FRAME and TLV rows of the table act as the arrival of their message (R100, R101, R150, R164). That they
are inbound messages, a record being one alone in a frame of its type, is the model's choice: log 1. -/
def Obligations.WireItemsArriveAsMessages : Prop :=
  (∀ (length : Byte) (tail : List Byte),
    Receives (.rc length tail) (0x02 :: length :: 0x01 :: tail) ∧
    Receives (.config length tail) (0x02 :: length :: 0x02 :: tail)) ∧
  (∀ (size : Byte) (value : List Byte),
    Receives (.rcThrottle size value) (frame 0x01 (1 :: size :: value)) ∧
    Receives (.rcRoll size value) (frame 0x01 (0 :: size :: value)) ∧
    Receives (.rcAux1 size value) (frame 0x01 (3 :: size :: value)) ∧
    Receives (.rcAux2 size value) (frame 0x01 (4 :: size :: value))) ∧
  (∀ v : Word32,
    Receives (.rcTimestamp v) (frame 0x01 (recordBytes ⟨100, 4, v⟩)) ∧
    Receives (.cfgP v) (frame 0x02 (recordBytes ⟨1, 4, v⟩)) ∧
    Receives (.cfgI v) (frame 0x02 (recordBytes ⟨2, 4, v⟩)) ∧
    Receives (.cfgD v) (frame 0x02 (recordBytes ⟨3, 4, v⟩)))

/-- A well-formed record of a TLV row is delivered as the one record of a frame of its type, and a size other
than 1, 2, 4 drops it with `TLV_BAD_SIZE` (R94, R104 (c), R150). Log 1 as above. -/
def Obligations.SingleRecordsAreDelivered : Prop :=
  ∀ s : State, s.halted = false →
    (∀ (size : Byte) (value : List Byte), value.length = size.toNat →
      ∀ p ∈ [(1, Instr.rcThrottle size value), (0, Instr.rcRoll size value),
          (3, Instr.rcAux1 size value), ((4 : Byte), Instr.rcAux2 size value)],
        ((size = 1 ∨ size = 2 ∨ size = 4) →
          ∃ t, exec p.2 s = .next t ∧
            t.rxOut = s.rxOut ++ [.frame 0x01 [⟨p.1, size, leVal value⟩]]) ∧
        (¬(size = 1 ∨ size = 2 ∨ size = 4) → size.toNat ≤ 252 →
          ∃ t, exec p.2 s = .next t ∧ t.rxOut = s.rxOut ++ [.dropped .tlvBadSize])) ∧
    (∀ v : Word32,
      (∃ t, exec (.rcTimestamp v) s = .next t ∧
        t.rxOut = s.rxOut ++ [.frame 0x01 [⟨100, 4, v⟩]]) ∧
      (∃ t, exec (.cfgP v) s = .next t ∧ t.rxOut = s.rxOut ++ [.frame 0x02 [⟨1, 4, v⟩]]) ∧
      (∃ t, exec (.cfgI v) s = .next t ∧ t.rxOut = s.rxOut ++ [.frame 0x02 [⟨2, 4, v⟩]]) ∧
      (∃ t, exec (.cfgD v) s = .next t ∧ t.rxOut = s.rxOut ++ [.frame 0x02 [⟨3, 4, v⟩]]))

/-- R91 to R94: the decoder accepts exactly the frames of the format, and reads out of one exactly the type and
the records it was made of. -/
def Obligations.AcceptedMessagesAreExactlyFrames : Prop :=
  ∀ (bytes : List Byte) (ty : Byte) (records : List Record),
    decodeMessage (byteAt bytes) bytes.length = .ok (ty, records) ↔
      (∀ r ∈ records, recordWf r = true) ∧ (records.flatMap recordBytes).length ≤ 254 ∧
        bytes = frame ty (records.flatMap recordBytes)

/-- R152: the structural check, its tests in order, the first that fails deciding, and what it establishes when
none fails. -/
def Obligations.StructuralCheckOrder : Prop :=
  ∀ (byte : Nat → Byte) (n : Nat),
    (n < 4 → structural byte n = some .truncated) ∧
    (4 ≤ n → byte 0 ≠ 0x02 → structural byte n = some .badStx) ∧
    (4 ≤ n → byte 0 = 0x02 → byte 1 = 0 → structural byte n = some .truncated) ∧
    (4 ≤ n → byte 0 = 0x02 → byte 1 ≠ 0 → n < (byte 1).toNat + 3 →
      structural byte n = some .truncated) ∧
    (4 ≤ n → byte 0 = 0x02 → byte 1 ≠ 0 → (byte 1).toNat + 3 < n →
      structural byte n = some .lengthMismatch) ∧
    (4 ≤ n → byte 0 = 0x02 → byte 1 ≠ 0 → n = (byte 1).toNat + 3 → structural byte n = none) ∧
    (structural byte n = none → 4 ≤ n ∧ n = (byte 1).toNat + 3 ∧ n ≤ 258)

/-- R93, R150: the cause for which a message is dropped: the structural check's, then a wrong checksum, then that
of the first record, in wire order, that cannot be read. -/
def Obligations.DropCauseIsTheFirstInOrder : Prop :=
  ∀ (byte : Nat → Byte) (n : Nat),
    (∀ c, structural byte n = some c → decodeMessage byte n = .error c) ∧
    (structural byte n = none → xorBytes (slice byte 2 (n - 1)) ≠ byte (n - 1) →
      decodeMessage byte n = .error .checksum) ∧
    (∀ (records : List Record) (o : Nat) (c : Cause),
      structural byte n = none → xorBytes (slice byte 2 (n - 1)) = byte (n - 1) →
      (∀ r ∈ records, recordWf r = true) → 3 ≤ o → o < n - 1 →
      slice byte 3 o = records.flatMap recordBytes → tlv byte (n - 1) o = .error c →
      decodeMessage byte n = .error c)

/-- R158: the record reader over a record area that ends at `last`, the `end` of R158, its tests in order. (That
`DTLV` reads with `end = 2 + RX[1]` is DtlvReadsOneRecord.) -/
def Obligations.RecordReaderOrder : Prop :=
  ∀ (byte : Nat → Byte) (last o : Nat),
    (o < 3 ∨ last ≤ o → tlv byte last o = .error .tlvOffset) ∧
    (3 ≤ o → o + 1 = last → tlv byte last o = .error .tlvSizeUnreadable) ∧
    (3 ≤ o → o + 1 < last → byte (o + 1) ∉ ([1, 2, 4] : List Byte) →
      tlv byte last o = .error .tlvBadSize) ∧
    (3 ≤ o → o + 1 < last → byte (o + 1) ∈ ([1, 2, 4] : List Byte) →
      last < o + 2 + (byte (o + 1)).toNat → tlv byte last o = .error .tlvOverrun) ∧
    (3 ≤ o → o + 1 < last → byte (o + 1) ∈ ([1, 2, 4] : List Byte) →
      o + 2 + (byte (o + 1)).toNat ≤ last →
      tlv byte last o = .ok
        ⟨⟨byte o, byte (o + 1), leVal (slice byte (o + 2) (o + 2 + (byte (o + 1)).toNat))⟩,
          o + 2 + (byte (o + 1)).toNat⟩)

/-- R154: `DHDR` on a block that is not halted. -/
def Obligations.DhdrReportsTheHeader : Prop :=
  decode (.command 0x200000000000 []) = .ok .dhdr ∧
  ∀ s : State, s.halted = false →
    (s.rxLen.toNat < 3 → exec .dhdr s = .next (s.answered .host .decodeError 1 0 [])) ∧
    (3 ≤ s.rxLen.toNat → s.rxByte 0 ≠ 0x02 →
      exec .dhdr s = .next (s.answered .host .decodeError 2 0 [])) ∧
    (3 ≤ s.rxLen.toNat → s.rxByte 0 = 0x02 → s.rxByte 1 = 0 →
      exec .dhdr s = .next (s.answered .host .decodeError 1 0 [])) ∧
    (3 ≤ s.rxLen.toNat → s.rxByte 0 = 0x02 → s.rxByte 1 ≠ 0 →
      exec .dhdr s = .next (s.answered .host .ok
        (BitVec.ofNat 32 ((s.rxByte 2).toNat + 256 * (s.rxByte 1).toNat)) 0 []))

/-- R156 with R152, R153: `VCHK` answers 1 for a sound message and 0 otherwise, and changes nothing; flipping any
one bit of a message that gave 1 makes it give 0. -/
def Obligations.VchkDetectsEverySingleFlip : Prop :=
  decode (.command 0x210000000000 []) = .ok .vchk ∧
  (∀ s : State, s.halted = false →
    (SoundMessage s.rxByte s.rxLen.toNat → exec .vchk s = .next (s.answered .host .ok 1 0 [])) ∧
    (¬SoundMessage s.rxByte s.rxLen.toNat →
      exec .vchk s = .next (s.answered .host .ok 0 0 []))) ∧
  (∀ (s t u : State) (bytes : List Byte) (i k : Nat),
    s.halted = false → i < bytes.length → k < 8 →
    exec (.rxmsg bytes) s = .next t →
    exec .vchk t = .next (t.answered .host .ok 1 0 []) →
    exec (.rxmsg (bytes.set i (byteAt bytes i ^^^ BitVec.ofNat 8 (2 ^ k)))) s = .next u →
    exec .vchk u = .next (u.answered .host .ok 0 0 []))

/-- R313: the checksum is weak. Reordering the body's bytes, or flipping one bit position in two bytes of the body
and checksum, never changes the checksum test of a message of a given start. -/
def Obligations.ChecksumIsBlindToReordering : Prop :=
  (∀ (length ck : Byte) (body body' : List Byte), body.Perm body' →
    body.length = length.toNat →
    cksumOk (byteAt (0x02 :: length :: body ++ [ck])) =
      cksumOk (byteAt (0x02 :: length :: body' ++ [ck]))) ∧
  (∀ (bytes : List Byte) (i j : Nat) (flip : Byte), SoundMessage (byteAt bytes) bytes.length →
    2 ≤ i → i < j → j < bytes.length →
    SoundMessage
      (byteAt ((bytes.set i (byteAt bytes i ^^^ flip)).set j (byteAt bytes j ^^^ flip))) bytes.length)

/-- R160: `DTLV` on a block that is not halted: structure first, then the record, and nothing changes. On `OK`
`d0` is the value and `d1` is `id | size << 8 | next << 16`. -/
def Obligations.DtlvReadsOneRecord : Prop :=
  ∀ offset : Word32, decode (.command (commandWord 0x22 0 offset) []) = .ok (.dtlv offset) ∧
  ∀ s : State, s.halted = false →
    (∀ c, structural s.rxByte s.rxLen.toNat = some c →
      exec (.dtlv offset) s =
        .next (s.answered .host .decodeError (c.code.setWidth 32) 0 [])) ∧
    (∀ c, structural s.rxByte s.rxLen.toNat = none →
      tlv s.rxByte (2 + (s.rxByte 1).toNat) offset.toNat = .error c →
      exec (.dtlv offset) s =
        .next (s.answered .host .decodeError (c.code.setWidth 32) 0 [])) ∧
    (∀ r, structural s.rxByte s.rxLen.toNat = none →
      tlv s.rxByte (2 + (s.rxByte 1).toNat) offset.toNat = .ok r →
      exec (.dtlv offset) s =
        .next (s.answered .host .ok r.record.value
          (BitVec.ofNat 32 (r.record.id.toNat + 256 * r.record.size.toNat + 65536 * r.next)) [])) ∧
    (∀ r, tlv s.rxByte (2 + (s.rxByte 1).toNat) offset.toNat = .ok r →
      offset.toNat + 3 ≤ r.next ∧ r.next ≤ 2 + (s.rxByte 1).toNat)

/-- R162: after a message that `RXMSG` found good, `DHDR` gives its length, `VCHK` gives 1, and the loop of
`DTLV` fails nowhere, runs at most 84 times and yields exactly the records of the `Frame` item pushed. -/
def Obligations.WalkYieldsTheFrameItem : Prop :=
  ∀ (s t : State) (bytes : List Byte), s.halted = false →
    exec (.rxmsg bytes) s = .next t → t.rxOk = true →
    ∃ (ty length : Byte) (records : List Record) (walked : List Response),
      t.rxOut = s.rxOut ++ [.frame ty records] ∧
      exec .dhdr t = .next (t.answered .host .ok
        (BitVec.ofNat 32 (ty.toNat + 256 * length.toNat)) 0 []) ∧
      exec .vchk t = .next (t.answered .host .ok 1 0 []) ∧
      walked = (decodeLoop (2 + length.toNat) 85 3 t).2 ∧
      (∀ r ∈ walked, r.st = .ok) ∧ walked.length ≤ 84 ∧
      walked.map recordOfResponse = records

/-! ### Packet builders -/

/-- R181 and R182: in every state that meets the invariants `BRC` returns the 26 bytes of R182 and changes
nothing; its checksum is 0x67 with the value bytes. -/
def Obligations.BrcReturnsTheRcFrame : Prop :=
  ∀ t : Word32, decode (.command (commandWord 0x30 0 t) []) = .ok (.brc t) ∧
  ∀ s : State, s.halted = false → s.channelInv = true →
    exec (.brc t) s = .next (s.answered .host .ok 26 0
      ([0x02, 0x17, 0x01,
        0x01, 0x02, s.throttle.extractLsb' 0 8, s.throttle.extractLsb' 8 8,
        0x00, 0x02, s.roll.extractLsb' 0 8, s.roll.extractLsb' 8 8,
        0x03, 0x02, s.aux1.extractLsb' 0 8, s.aux1.extractLsb' 8 8,
        0x04, 0x02, s.aux2.extractLsb' 0 8, s.aux2.extractLsb' 8 8,
        0x64, 0x04, t.extractLsb' 0 8, t.extractLsb' 8 8, t.extractLsb' 16 8, t.extractLsb' 24 8,
        0x67 ^^^ s.throttle.extractLsb' 0 8 ^^^ s.throttle.extractLsb' 8 8 ^^^
          s.roll.extractLsb' 0 8 ^^^ s.roll.extractLsb' 8 8 ^^^
          s.aux1.extractLsb' 0 8 ^^^ s.aux1.extractLsb' 8 8 ^^^
          s.aux2.extractLsb' 0 8 ^^^ s.aux2.extractLsb' 8 8 ^^^
          t.extractLsb' 0 8 ^^^ t.extractLsb' 8 8 ^^^ t.extractLsb' 16 8 ^^^ t.extractLsb' 24 8]))

/-- R184 and R185: `BCFG` returns the 22 bytes of R185, every gain pattern unchanged, and changes nothing. -/
def Obligations.BcfgReturnsTheConfigFrame : Prop :=
  decode (.command 0x310000000000 []) = .ok .bcfg ∧
  ∀ s : State, s.halted = false →
    exec .bcfg s = .next (s.answered .host .ok 22 0
      ([0x02, 0x13, 0x02,
        0x01, 0x04, s.cfgP.extractLsb' 0 8, s.cfgP.extractLsb' 8 8, s.cfgP.extractLsb' 16 8,
        s.cfgP.extractLsb' 24 8,
        0x02, 0x04, s.cfgI.extractLsb' 0 8, s.cfgI.extractLsb' 8 8, s.cfgI.extractLsb' 16 8,
        s.cfgI.extractLsb' 24 8,
        0x03, 0x04, s.cfgD.extractLsb' 0 8, s.cfgD.extractLsb' 8 8, s.cfgD.extractLsb' 16 8,
        s.cfgD.extractLsb' 24 8,
        0x06 ^^^
          s.cfgP.extractLsb' 0 8 ^^^ s.cfgP.extractLsb' 8 8 ^^^ s.cfgP.extractLsb' 16 8 ^^^
          s.cfgP.extractLsb' 24 8 ^^^
          s.cfgI.extractLsb' 0 8 ^^^ s.cfgI.extractLsb' 8 8 ^^^ s.cfgI.extractLsb' 16 8 ^^^
          s.cfgI.extractLsb' 24 8 ^^^
          s.cfgD.extractLsb' 0 8 ^^^ s.cfgD.extractLsb' 8 8 ^^^ s.cfgD.extractLsb' 16 8 ^^^
          s.cfgD.extractLsb' 24 8]))

/-- R166 for `BRC` and `BCFG`: the frame they return, fed back as a message, is delivered with the channels and the
time, or the three gains, in emission order. -/
def Obligations.BuilderFramesRoundTrip : Prop :=
  ∀ s : State, s.halted = false → s.channelInv = true →
    (∀ t : Word32, ∃ (u v : State) (f : List Byte),
      exec (.brc t) s = .next u ∧ u.lastResponse.map Response.frame = some f ∧
      exec (.rxmsg f) u = .next v ∧
      v.rxOut = s.rxOut ++ [.frame 0x01
        [⟨1, 2, s.throttle.setWidth 32⟩, ⟨0, 2, s.roll.setWidth 32⟩, ⟨3, 2, s.aux1.setWidth 32⟩,
          ⟨4, 2, s.aux2.setWidth 32⟩, ⟨100, 4, t⟩]]) ∧
    (∃ (u v : State) (f : List Byte),
      exec .bcfg s = .next u ∧ u.lastResponse.map Response.frame = some f ∧
      exec (.rxmsg f) u = .next v ∧
      v.rxOut = s.rxOut ++ [.frame 0x02 [⟨1, 4, s.cfgP⟩, ⟨2, 4, s.cfgI⟩, ⟨3, 4, s.cfgD⟩]])

/-! ### Input state machine -/

/-- R190, R191, R200, R201: outside AUTO the throttle keys write 1500 - S, 1500 + S, 1500, 1500; in AUTO they
change nothing. For limits up to 500 the values lie in 1000..1500 and 1500..2000. -/
def Obligations.ThrottleKeysActOutsideAuto : Prop :=
  decode (.command 0x400000000000 []) = .ok .keydnThrUp ∧
  decode (.command 0x400100000000 []) = .ok .keydnThrDown ∧
  decode (.command 0x410000000000 []) = .ok .keyupThrUp ∧
  decode (.command 0x410100000000 []) = .ok .keyupThrDown ∧
  ∀ s : State, s.halted = false →
    (s.auto = false →
      (∃ up down : Chan, up.toNat = 1500 - s.speedLimit.toNat ∧
        down.toNat = 1500 + s.speedLimit.toNat ∧
        exec .keydnThrUp s = .next ({ s with throttle := up }.answered .host .ok s.mode 0 []) ∧
        exec .keydnThrDown s = .next ({ s with throttle := down }.answered .host .ok s.mode 0 []) ∧
        (s.speedLimit.toNat ≤ 500 → 1000 ≤ up.toNat ∧ up.toNat ≤ 1500 ∧ 1500 ≤ down.toNat ∧
          down.toNat ≤ 2000)) ∧
      exec .keyupThrUp s = .next ({ s with throttle := 1500 }.answered .host .ok s.mode 0 []) ∧
      exec .keyupThrDown s = .next ({ s with throttle := 1500 }.answered .host .ok s.mode 0 [])) ∧
    (s.auto = true →
      exec .keydnThrUp s = .next (s.answered .host .ok 2 0 []) ∧
      exec .keydnThrDown s = .next (s.answered .host .ok 2 0 []) ∧
      exec .keyupThrUp s = .next (s.answered .host .ok 2 0 []) ∧
      exec .keyupThrDown s = .next (s.answered .host .ok 2 0 []))

/-- R192, R193, R202, R203: the roll keys write 1500 + S, 1500 - S, 1500, 1500 in every mode. -/
def Obligations.RollKeysActInEveryMode : Prop :=
  decode (.command 0x400200000000 []) = .ok .keydnRollLeft ∧
  decode (.command 0x400300000000 []) = .ok .keydnRollRight ∧
  decode (.command 0x410200000000 []) = .ok .keyupRollLeft ∧
  decode (.command 0x410300000000 []) = .ok .keyupRollRight ∧
  ∀ s : State, s.halted = false →
    (∃ left right : Chan, left.toNat = 1500 + s.speedLimit.toNat ∧
      right.toNat = 1500 - s.speedLimit.toNat ∧
      exec .keydnRollLeft s = .next ({ s with roll := left }.answered .host .ok s.mode 0 []) ∧
      exec .keydnRollRight s = .next ({ s with roll := right }.answered .host .ok s.mode 0 []) ∧
      (s.speedLimit.toNat ≤ 500 → 1500 ≤ left.toNat ∧ left.toNat ≤ 2000 ∧ 1000 ≤ right.toNat ∧
        right.toNat ≤ 1500)) ∧
    exec .keyupRollLeft s = .next ({ s with roll := 1500 }.answered .host .ok s.mode 0 []) ∧
    exec .keyupRollRight s = .next ({ s with roll := 1500 }.answered .host .ok s.mode 0 [])

/-- R194, R204: the momentary key sets aux1 to 2000 on press and 1000 on release, in every mode. -/
def Obligations.AuxOneIsMomentary : Prop :=
  decode (.command 0x400400000000 []) = .ok .keydnAux1 ∧
  decode (.command 0x410400000000 []) = .ok .keyupAux1 ∧
  ∀ s : State, s.halted = false →
    exec .keydnAux1 s = .next ({ s with aux1 := 2000 }.answered .host .ok s.mode 0 []) ∧
    exec .keyupAux1 s = .next ({ s with aux1 := 1000 }.answered .host .ok s.mode 0 [])

/-- R195, R205: the aux2 toggle flips `AUX2` on a press that is not a repeat, outside AUTO; in AUTO the press is
only recorded; a release clears the held bit and nothing else. -/
def Obligations.AuxTwoTogglesOnPress : Prop :=
  decode (.command 0x400500000000 []) = .ok .keydnAux2 ∧
  decode (.command 0x410500000000 []) = .ok .keyupAux2 ∧
  ∀ s : State, s.halted = false →
    (s.heldAux2 = true → exec .keydnAux2 s = .next (s.answered .host .ok s.mode 0 [])) ∧
    (s.heldAux2 = false → s.auto = true → exec .keydnAux2 s =
      .next ({ s with heldAux2 := true }.answered .host .ok 2 0 [])) ∧
    (s.heldAux2 = false → s.auto = false → s.aux2 = 2000 → exec .keydnAux2 s =
      .next ({ s with heldAux2 := true, aux2 := 1000 }.answered .host .ok 0 0 [])) ∧
    (s.heldAux2 = false → s.auto = false → s.aux2 ≠ 2000 → exec .keydnAux2 s =
      .next ({ s with heldAux2 := true, aux2 := 2000 }.answered .host .ok 1 0 [])) ∧
    exec .keyupAux2 s = .next ({ s with heldAux2 := false }.answered .host .ok s.mode 0 [])

/-- R196, R206: the auto toggle enters and leaves AUTO on a press that is not a repeat; a release clears the held
bit and nothing else. -/
def Obligations.AutoTogglesOnPress : Prop :=
  decode (.command 0x400600000000 []) = .ok .keydnAuto ∧
  decode (.command 0x410600000000 []) = .ok .keyupAuto ∧
  ∀ s : State, s.halted = false →
    (s.heldAuto = true → exec .keydnAuto s = .next (s.answered .host .ok s.mode 0 [])) ∧
    (s.heldAuto = false → s.auto = false → ∃ pinned : Chan,
      pinned.toNat = 1500 - s.speedLimit.toNat ∧
      exec .keydnAuto s = .next ({ s with
        heldAuto := true
        auto := true
        throttle := pinned
        aux2 := 2000 }.answered .host .ok 2 0 [])) ∧
    (s.heldAuto = false → s.auto = true → exec .keydnAuto s =
      .next ({ s with
        heldAuto := true
        auto := false
        throttle := 1500
        aux2 := 1000 }.answered .host .ok 0 0 [])) ∧
    exec .keyupAuto s = .next ({ s with heldAuto := false }.answered .host .ok s.mode 0 [])

/-- R212, R266: `SETSPD` sets the limit, re-applies the throttle at once in AUTO and only there, and refuses a
value above 500 with `RangeError` and no change. -/
def Obligations.SetspdSetsTheLimit : Prop :=
  ∀ v : Word32, decode (.command (commandWord 0x42 0 v) []) = .ok (.setspd v) ∧
  ∀ s : State, s.halted = false →
    (500 < v.toNat → exec (.setspd v) s = .next (s.answered .host .rangeError 0 0 [])) ∧
    (v.toNat ≤ 500 → ∃ limit : BitVec 9, limit.toNat = v.toNat ∧
      (s.auto = false → exec (.setspd v) s =
        .next ({ s with speedLimit := limit }.answered .host .ok s.mode 0 [])) ∧
      (s.auto = true → ∃ pinned : Chan, pinned.toNat = 1500 - v.toNat ∧
        exec (.setspd v) s = .next ({ s with
          speedLimit := limit
          throttle := pinned }.answered .host .ok 2 0 [])))

/-- R214: the six transitions of its table are all there are. In every state that meets the invariants an
operation that changes `MODE` is `KEYDN.AUX2` or `KEYDN.AUTO` with its held bit 0; the mode goes MANUAL to
SEMI_AUTO and back by the one, to AUTO and from AUTO to MANUAL by the other. -/
def Obligations.ModeChangesOnlyByTheToggles : Prop :=
  ∀ (i : Instr) (s t : State), s.channelInv = true → exec i s = .next t →
    (t.mode = s.mode ∨
      (i = .keydnAux2 ∧ s.heldAux2 = false ∧ ((s.mode = 0 ∧ t.mode = 1) ∨ (s.mode = 1 ∧ t.mode = 0))) ∨
      (i = .keydnAuto ∧ s.heldAuto = false ∧
        ((s.mode = 0 ∧ t.mode = 2) ∨ (s.mode = 1 ∧ t.mode = 2) ∨ (s.mode = 2 ∧ t.mode = 0)))) ∧
    (s.halted = false → i = .keydnAux2 → s.heldAux2 = false →
      (s.mode = 0 → t.mode = 1 ∧ t.aux2 = 2000) ∧ (s.mode = 1 → t.mode = 0 ∧ t.aux2 = 1000) ∧
      (s.mode = 2 → t.mode = 2 ∧ t.heldAux2 = true)) ∧
    (s.halted = false → i = .keydnAuto → s.heldAuto = false →
      (s.mode ≠ 2 → t.mode = 2 ∧ t.throttle.toNat = 1500 - s.speedLimit.toNat ∧ t.aux2 = 2000) ∧
      (s.mode = 2 → t.mode = 0 ∧ t.throttle = 1500 ∧ t.aux2 = 1000))

/-! ### Scheduler and config path -/

/-- R220, R221: `TMRSTART` starts a stopped timer at count 0 and changes nothing while it runs; `TMRCANCEL` stops it
and discards the count. -/
def Obligations.TimerStartsAndCancels : Prop :=
  decode (.command 0x500000000000 []) = .ok .tmrstart ∧
  decode (.command 0x510000000000 []) = .ok .tmrcancel ∧
  ∀ s : State, s.halted = false →
    (s.run = false → exec .tmrstart s =
      .next ({ s with run := true, tickCnt := 0 }.answered .host .ok 0 0 [])) ∧
    (s.run = true → exec .tmrstart s = .next (s.answered .host .ok 0 0 [])) ∧
    exec .tmrcancel s = .next ({ s with run := false, tickCnt := 0 }.answered .host .ok 0 0 [])

/-- R222 to R225: each of the four operations writes its one bit of `SCHED` and nothing else, and sends nothing. -/
def Obligations.PauseAndConnectionBits : Prop :=
  decode (.command 0x520000000000 []) = .ok .pause ∧
  decode (.command 0x530000000000 []) = .ok .resume ∧
  decode (.command 0x540000000000 []) = .ok .connect ∧
  decode (.command 0x550000000000 []) = .ok .disconnect ∧
  ∀ s : State, s.halted = false →
    exec .pause s = .next ({ s with paused := true }.answered .host .ok 0 0 []) ∧
    exec .resume s = .next ({ s with paused := false }.answered .host .ok 0 0 []) ∧
    exec .connect s = .next ({ s with connected := true }.answered .transport .ok 0 0 []) ∧
    exec .disconnect s = .next ({ s with connected := false }.answered .transport .ok 0 0 [])

/-- R226, R227: a pulse counts while the timer runs, and the 50th performs the tick, which hands one RC frame of
the channels as they stand to the transport when connected, not paused and ready, and otherwise does nothing. -/
def Obligations.PulsesCountAndTick : Prop :=
  ∀ (now : Word32) (ready : Bool),
  decode (.command (commandWord 0x56 (if ready then 1 else 0) now) []) = .ok (.mspulse now ready) ∧
  ∀ s : State, s.halted = false →
    (s.run = false →
      exec (.mspulse now ready) s = .next (s.answered .timeBase .ok 0 0 [])) ∧
    (s.run = true → s.tickCnt.toNat ≠ 49 →
      exec (.mspulse now ready) s =
        .next ({ s with tickCnt := s.tickCnt + 1 }.answered .timeBase .ok 0 0 [])) ∧
    (s.run = true → s.tickCnt.toNat = 49 →
      (s.connected = true → s.paused = false → ready = true →
        exec (.mspulse now ready) s = .next ({ s with
          tickCnt := 0
          txOut := s.txOut ++ [encRC s.throttle s.roll s.aux1 s.aux2 now] }.answered
            .timeBase .ok 0 0 [])) ∧
      (¬(s.connected = true ∧ s.paused = false ∧ ready = true) →
        exec (.mspulse now ready) s =
          .next ({ s with tickCnt := 0 }.answered .timeBase .ok 0 0 [])))

/-- R221: `TMRCANCEL` stops the timer and discards the count; after it nothing is pushed to `tx_out` by any sequence
of operations, of any length, that holds no `TMRSTART` and no `SENDCFG`. -/
def Obligations.NoSendAfterCancel : Prop :=
  ∀ s : State, s.halted = false →
    exec .tmrcancel s =
      .next ({ s with run := false, tickCnt := 0 }.answered .host .ok 0 0 []) ∧
    (∀ (is : List Instr),
      (∀ i ∈ is, i ≠ .tmrstart ∧ i ≠ .sendcfg false ∧ i ≠ .sendcfg true) →
      ∃ u, execAll (.tmrcancel :: is) s = .next u ∧ u.txOut = s.txOut ∧ u.run = false)

/-- R228, Scenario C: with the timer running at count 0, connected, not paused and the transport ready, a sequence
of pulses with input operations anywhere between them pushes one frame for every 50 pulses (1000 pulses, 20
frames); the frame of the k-th tick carries the time of pulse 50 k and the channels as the operations before
that pulse left them. -/
def Obligations.OneFrameEveryFiftyPulses : Prop :=
  ∀ (s : State) (is : List Instr), s.halted = false → s.run = true → s.connected = true →
    s.paused = false → s.tickCnt = 0 →
    (∀ i ∈ is, isInputOp i = true ∨ ∃ now, i = .mspulse now true) →
    ∃ u : State, execAll is s = .next u ∧
      u.txOut.length = s.txOut.length + pulsesIn is / 50 ∧ u.tickCnt.toNat = pulsesIn is % 50 ∧
      s.txOut <+: u.txOut ∧
      (∀ (before after : List Instr) (now : Word32),
        is = before ++ .mspulse now true :: after → pulsesIn before % 50 = 49 →
        ∃ v : State, execAll before s = .next v ∧
          u.txOut[s.txOut.length + pulsesIn before / 50]? =
            some (encRC v.throttle v.roll v.aux1 v.aux2 now))

/-- R72, R135, R227, R233: only a tick and `SENDCFG` push to `tx_out`, each at most one frame, at its own operation
and under its own conditions; nothing pushed is ever changed or taken back. -/
def Obligations.OnlyTickAndSendcfgSend : Prop :=
  ∀ (i : Instr) (s t : State), exec i s = .next t →
    t.txOut = s.txOut ∨
    (s.halted = false ∧ s.connected = true ∧ s.paused = false ∧ s.run = true ∧ s.tickCnt.toNat = 49 ∧
      ∃ now, i = .mspulse now true ∧
        t.txOut = s.txOut ++ [encRC s.throttle s.roll s.aux1 s.aux2 now]) ∨
    (s.halted = false ∧ s.connected = true ∧ i = .sendcfg true ∧
      t.txOut = s.txOut ++ [encCFG s.cfgP s.cfgI s.cfgD])

/-- R230, R231, R232: each operation stores the pattern, any pattern, in its one register. -/
def Obligations.GainsAreStoredUnchanged : Prop :=
  ∀ v : Word32,
  decode (.command (commandWord 0x58 0 v) []) = .ok (.setp v) ∧
  decode (.command (commandWord 0x59 0 v) []) = .ok (.seti v) ∧
  decode (.command (commandWord 0x5A 0 v) []) = .ok (.setd v) ∧
  ∀ s : State, s.halted = false →
    exec (.setp v) s = .next ({ s with cfgP := v }.answered .host .ok 0 0 []) ∧
    exec (.seti v) s = .next ({ s with cfgI := v }.answered .host .ok 0 0 []) ∧
    exec (.setd v) s = .next ({ s with cfgD := v }.answered .host .ok 0 0 [])

/-- R233, R265, R266: `SENDCFG` pushes and returns the Config frame of the gains as they stand when connected and
ready, `DROPPED` when not ready, `TransportUnavailable` when not connected; no register changes. -/
def Obligations.SendcfgSendsTheGains : Prop :=
  (∀ ready : Bool, decode (.command (commandWord 0x5B (if ready then 1 else 0) 0) []) =
    .ok (.sendcfg ready)) ∧
  ∀ s : State, s.halted = false →
    (s.connected = true → exec (.sendcfg true) s =
      .next ({ s with txOut := s.txOut ++ [encCFG s.cfgP s.cfgI s.cfgD] }.answered .host .ok 22 0
        (encCFG s.cfgP s.cfgI s.cfgD))) ∧
    (s.connected = true →
      exec (.sendcfg false) s = .next (s.answered .host .dropped 0 0 [])) ∧
    (s.connected = false → ∀ ready : Bool,
      exec (.sendcfg ready) s = .next (s.answered .host .transportUnavailable 0 0 []))

/-! ### Register access, ownership -/

/-- R250 with R24 to R33 and R40: `RDREG` answers the register's value, zero-extended, halted or not, and changes
nothing. -/
def Obligations.RdregReadsEveryRegister : Prop :=
  (∀ r : Reg, decode (.command (commandWord 0x60 r.number 0) []) = .ok (.rdreg r)) ∧
  ∀ s : State,
    (∀ r : Reg, exec (.rdreg r) s = .next (s.answered .host .ok (s.readReg r) 0 [])) ∧
    (s.readReg .throttle).toNat = s.throttle.toNat ∧
    (s.readReg .roll).toNat = s.roll.toNat ∧
    (s.readReg .aux1).toNat = s.aux1.toNat ∧
    (s.readReg .aux2).toNat = s.aux2.toNat ∧
    (s.readReg .mode).toNat = (if s.auto then 2 else if s.aux2 = 2000 then 1 else 0) ∧
    (s.readReg .speedLimit).toNat = s.speedLimit.toNat ∧
    (s.readReg .ismFlags).toNat =
      s.auto.toNat + 2 * s.heldAuto.toNat + 4 * s.heldAux2.toNat ∧
    s.readReg .cfgP = s.cfgP ∧ s.readReg .cfgI = s.cfgI ∧ s.readReg .cfgD = s.cfgD ∧
    (s.readReg .sched).toNat = s.run.toNat + 2 * s.paused.toNat + 4 * s.connected.toNat ∧
    (s.readReg .tickCnt).toNat = s.tickCnt.toNat ∧
    (s.readReg .encStat).toNat = s.encOpen.toNat + 256 * s.wcur.toNat ∧
    (s.readReg .rxStat).toNat = s.rxLoaded.toNat + 2 * s.rxOk.toNat +
      256 * (causeCode s.rxCause).toNat + 65536 * s.rxFtype.toNat ∧
    (s.readReg .rxLen).toNat = s.rxLen.toNat ∧
    (s.readReg .fault).toNat = s.fReentrant.toNat + 2 * s.fNotOpen.toNat + 4 * s.fIllegal.toNat

/-- R38, R60 and R73: each part of the state is written only by the operations that own it: the channels, the
limit and the flags by the input machine, the gains each by its own operation, the timer and the connection
by the scheduler's, `EB` and `ENCSTAT` by the encoder's, `RX`, `RXLEN`, `RXSTAT` and `rx_out` by an arriving
message. -/
def Obligations.UnitsWriteOnlyTheirOwnState : Prop :=
  ∀ (i : Instr) (s t : State), exec i s = .next t →
    (isInputOp i = false → t.throttle = s.throttle ∧ t.roll = s.roll ∧ t.aux1 = s.aux1 ∧
      t.aux2 = s.aux2 ∧ t.speedLimit = s.speedLimit ∧ t.auto = s.auto ∧ t.heldAuto = s.heldAuto ∧
      t.heldAux2 = s.heldAux2) ∧
    (isEncoderOp i = false → t.eb = s.eb ∧ t.encOpen = s.encOpen ∧ t.wcur = s.wcur) ∧
    (isReceiveOp i = false → t.rx = s.rx ∧ t.rxLen = s.rxLen ∧ t.rxLoaded = s.rxLoaded ∧
      t.rxOk = s.rxOk ∧ t.rxCause = s.rxCause ∧ t.rxFtype = s.rxFtype ∧ t.rxOut = s.rxOut) ∧
    ((∀ v, i ≠ .setp v) → t.cfgP = s.cfgP) ∧
    ((∀ v, i ≠ .seti v) → t.cfgI = s.cfgI) ∧
    ((∀ v, i ≠ .setd v) → t.cfgD = s.cfgD) ∧
    (i ≠ .tmrstart → i ≠ .tmrcancel → t.run = s.run) ∧
    (i ≠ .tmrstart → i ≠ .tmrcancel → (∀ n b, i ≠ .mspulse n b) → t.tickCnt = s.tickCnt) ∧
    (i ≠ .pause → i ≠ .resume → t.paused = s.paused) ∧
    (i ≠ .connect → i ≠ .disconnect → t.connected = s.connected)

/-- R68, R181, R184, R250: `RDREG`, `DHDR`, `VCHK`, `DTLV`, `BRC` and `BCFG` change nothing but the response, so a
repeated read answers the same. -/
def Obligations.ReadsHaveNoSideEffect : Prop :=
  ∀ (i : Instr) (s : State), isReadOp i = true →
    ∃ r : Response, exec i s = .next { s with answers := s.answers ++ [⟨.host, r⟩] } ∧
      exec i { s with answers := s.answers ++ [⟨.host, r⟩] } =
        .next { s with answers := s.answers ++ [⟨.host, r⟩, ⟨.host, r⟩] }

/-! ### The pseudo-operation DECODE -/

/-- R121 (c), R162: the pseudo-operation `DECODE` in every state. It issues `DHDR`, then `VCHK`, then `DTLV` from
offset 3 to the checksum index that `DHDR`'s length gives, and leaves nothing but the responses. It stops at the
first error: at `DHDR` when the block is halted or the header is bad, at the first record that cannot be read. That
it also stops after a `VCHK` that gives 0 is the model's reading of R162's "must give 1": log 21. -/
def Obligations.DecodeStopsAtTheFirstError : Prop :=
  ∀ s : State, ∃ responses : List Response,
    decodeMessageOps s =
      ({ s with answers := s.answers ++ responses.map (Answer.mk .host) }, responses) ∧
    (s.halted = true → responses = [⟨.fault, s.faultWord, 0, []⟩]) ∧
    (s.halted = false → s.rxLen.toNat < 3 → responses = [⟨.decodeError, 1, 0, []⟩]) ∧
    (s.halted = false → 3 ≤ s.rxLen.toNat → s.rxByte 0 ≠ 0x02 →
      responses = [⟨.decodeError, 2, 0, []⟩]) ∧
    (s.halted = false → 3 ≤ s.rxLen.toNat → s.rxByte 0 = 0x02 → s.rxByte 1 = 0 →
      responses = [⟨.decodeError, 1, 0, []⟩]) ∧
    (s.halted = false → 3 ≤ s.rxLen.toNat → s.rxByte 0 = 0x02 → s.rxByte 1 ≠ 0 →
      ∃ header : Response,
        header = ⟨.ok, BitVec.ofNat 32 ((s.rxByte 2).toNat + 256 * (s.rxByte 1).toNat), 0, []⟩ ∧
        (¬SoundMessage s.rxByte s.rxLen.toNat → responses = [header, ⟨.ok, 0, 0, []⟩]) ∧
        (SoundMessage s.rxByte s.rxLen.toNat → ∃ walked : List Response,
          responses = header :: ⟨.ok, 1, 0, []⟩ :: walked ∧
          (∀ records, recordsOf s.rxByte (2 + (s.rxByte 1).toNat) = .ok records →
            (∀ r ∈ walked, r.st = .ok) ∧ walked.map recordOfResponse = records) ∧
          (∀ c, recordsOf s.rxByte (2 + (s.rxByte 1).toNat) = .error c → ∃ good : List Response,
            (∀ r ∈ good, r.st = .ok) ∧
            walked = good ++ [⟨.decodeError, c.code.setWidth 32, 0, []⟩])))
end

