-- ==== Sys2Proof/Laws/Encoding.lean ====
section
/-! SUPPORT. The laws of command words, little-endian values and key codes: what the fields of a built word are,
and that a value read back is the value written. -/

namespace Sys2Proof.Machine

/-! ### Command words -/

theorem commandWord_toNat (op a : Byte) (v : Word32) :
    (commandWord op a v).toNat = op.toNat * 2 ^ 40 + a.toNat * 2 ^ 32 + v.toNat := by
  have ho := op.isLt
  have ha := a.isLt
  have hv := v.isLt
  simp only [commandWord, BitVec.toNat_or, BitVec.toNat_shiftLeft, BitVec.toNat_setWidth,
    Nat.shiftLeft_eq]
  rw [Nat.mod_eq_of_lt (by omega : op.toNat < 2 ^ 48),
    Nat.mod_eq_of_lt (by omega : a.toNat < 2 ^ 48),
    Nat.mod_eq_of_lt (by omega : v.toNat < 2 ^ 48),
    Nat.mod_eq_of_lt (by omega : op.toNat * 2 ^ 40 < 2 ^ 48),
    Nat.mod_eq_of_lt (by omega : a.toNat * 2 ^ 32 < 2 ^ 48),
    ← Nat.shiftLeft_eq, ← Nat.shiftLeft_eq, Nat.or_assoc,
    ← Nat.shiftLeft_add_eq_or_of_lt (b := v.toNat) (i := 32) (by omega),
    ← Nat.shiftLeft_add_eq_or_of_lt (i := 40)]
  · omega
  · rw [Nat.shiftLeft_eq]; omega

theorem opField_toNat (w : Command) : (opField w).toNat = w.toNat / 2 ^ 40 := by
  have := w.isLt
  simp [opField, BitVec.extractLsb'_toNat, Nat.shiftRight_eq_div_pow]
  omega

theorem aField_toNat (w : Command) : (aField w).toNat = w.toNat / 2 ^ 32 % 2 ^ 8 := by
  simp [aField, BitVec.extractLsb'_toNat, Nat.shiftRight_eq_div_pow]

theorem vField_toNat (w : Command) : (vField w).toNat = w.toNat % 2 ^ 32 := by
  simp [vField, BitVec.extractLsb'_toNat]

@[simp] theorem opField_commandWord (op a : Byte) (v : Word32) :
    opField (commandWord op a v) = op := by
  apply BitVec.eq_of_toNat_eq
  have ho := op.isLt
  have ha := a.isLt
  have hv := v.isLt
  rw [opField_toNat, commandWord_toNat]
  omega

@[simp] theorem aField_commandWord (op a : Byte) (v : Word32) :
    aField (commandWord op a v) = a := by
  apply BitVec.eq_of_toNat_eq
  have ho := op.isLt
  have ha := a.isLt
  have hv := v.isLt
  rw [aField_toNat, commandWord_toNat]
  omega

@[simp] theorem vField_commandWord (op a : Byte) (v : Word32) :
    vField (commandWord op a v) = v := by
  apply BitVec.eq_of_toNat_eq
  have ho := op.isLt
  have ha := a.isLt
  have hv := v.isLt
  rw [vField_toNat, commandWord_toNat]
  omega

/-- A word is its three fields: no bit of a command word lies outside them. -/
@[simp] theorem commandWord_of_fields (w : Command) :
    commandWord (opField w) (aField w) (vField w) = w := by
  apply BitVec.eq_of_toNat_eq
  have := w.isLt
  rw [commandWord_toNat, vField_toNat, aField_toNat, opField_toNat]
  omega

/-- Two words are equal when their fields are. -/
theorem command_eq_iff_fields {w x : Command} :
    w = x ↔ opField w = opField x ∧ aField w = aField x ∧ vField w = vField x := by
  constructor
  · rintro rfl
    simp
  · rintro ⟨h1, h2, h3⟩
    rw [← commandWord_of_fields w, h1, h2, h3, commandWord_of_fields]

@[simp] theorem opField_and (w x : Command) : opField (w &&& x) = opField w &&& opField x := by
  ext i hi
  simp [opField]

@[simp] theorem aField_and (w x : Command) : aField (w &&& x) = aField w &&& aField x := by
  ext i hi
  simp [aField]

@[simp] theorem vField_and (w x : Command) : vField (w &&& x) = vField w &&& vField x := by
  ext i hi
  simp [vField]

/-- What `decodeCommand` reads from a built word. -/
@[simp] theorem decodeCommand_commandWord (op a : Byte) (v : Word32) (bytes : List Byte) :
    decodeCommand (commandWord op a v) bytes = decodeFields op a v bytes := by
  simp [decodeCommand]

/-! ### Register numbers -/

/-- A register's number names it. -/
@[simp] theorem ofNumber_number (r : Reg) : Reg.ofNumber r.number = some r := by
  cases r <;> rfl

/-! ### Little-endian values -/

@[simp] theorem leBytes_length (n : Nat) (v : Word32) : (leBytes n v).length = n := by
  simp [leBytes]

theorem leBytes_one (v : Word32) : leBytes 1 v = [v.extractLsb' 0 8] := rfl

theorem leBytes_two (v : Word32) : leBytes 2 v = [v.extractLsb' 0 8, v.extractLsb' 8 8] := rfl

theorem leBytes_four (v : Word32) :
    leBytes 4 v = [v.extractLsb' 0 8, v.extractLsb' 8 8, v.extractLsb' 16 8, v.extractLsb' 24 8] :=
  rfl

/-- `LEval(LE_4(v)) = v` (R13). -/
@[simp] theorem leVal_leBytes_four (v : Word32) : leVal (leBytes 4 v) = v := by
  apply BitVec.eq_of_toNat_eq
  have := v.isLt
  simp [leVal, leNat, leBytes_four, BitVec.extractLsb'_toNat, Nat.shiftRight_eq_div_pow]
  omega

/-- `LEval(LE_2(v)) = v` for a value that fits (R13). -/
theorem leVal_leBytes_two (v : Word32) (h : v.toNat ≤ 0xFFFF) : leVal (leBytes 2 v) = v := by
  apply BitVec.eq_of_toNat_eq
  simp [leVal, leNat, leBytes_two, BitVec.extractLsb'_toNat, Nat.shiftRight_eq_div_pow]
  omega

/-- `LEval(LE_1(v)) = v` for a value that fits (R13). -/
theorem leVal_leBytes_one (v : Word32) (h : v.toNat ≤ 0xFF) : leVal (leBytes 1 v) = v := by
  apply BitVec.eq_of_toNat_eq
  simp [leVal, leNat, leBytes_one, BitVec.extractLsb'_toNat]
  omega

/-- The size rule loses nothing: the value read back from the size chosen is the value (R95). -/
@[simp] theorem leVal_leBytes_intSize (v : Word32) : leVal (leBytes (intSize v) v) = v := by
  unfold intSize
  split
  · exact leVal_leBytes_one v ‹_›
  · split
    · exact leVal_leBytes_two v ‹_›
    · exact leVal_leBytes_four v

/-- The size chosen is 1, 2 or 4 (R95). -/
theorem intSize_cases (v : Word32) : intSize v = 1 ∨ intSize v = 2 ∨ intSize v = 4 := by
  unfold intSize
  split
  · simp
  · split <;> simp

@[simp] theorem irec_length (id : Byte) (v : Word32) : (irec id v).length = 2 + intSize v := by
  simp [irec]
  omega

@[simp] theorem frec_length (id : Byte) (v : Word32) : (frec id v).length = 6 := by
  simp [frec]

@[simp] theorem trec_length (t : Word32) : (trec t).length = 6 := by
  simp [trec]

@[simp] theorem frame_length (type : Byte) (records : List Byte) :
    (frame type records).length = records.length + 4 := by
  simp [frame]

end Sys2Proof.Machine
end

