-- ==== Sys2Proof/Laws/Memory.lean ====
section
/-! SUPPORT. The laws of the byte spaces: a read after a write, a write elsewhere, byte sequences, and the
canonical form that every operation keeps. -/

namespace Sys2Proof.Machine

/-- Every index of `m` is at least `lo` (the bound of the canonical form's tail). -/
def Memory.from (lo : Nat) (m : Memory) : Prop := ∀ c ∈ m, lo ≤ c.1

@[simp] theorem Memory.get_nil (a : Nat) : Memory.get [] a = none := rfl

theorem Memory.get_write_same (m : Memory) (a : Nat) (b : Byte) :
    (m.write a b).get a = some b := by
  induction m with
  | nil => simp [Memory.write, Memory.get]
  | cons c cells ih =>
    obtain ⟨i, x⟩ := c
    unfold Memory.write
    split
    · simp [Memory.get]
    · split
      · simp [Memory.get]
      · simp [Memory.get, *]

theorem Memory.get_write_other (m : Memory) (a a' : Nat) (b : Byte) (h : a' ≠ a) :
    (m.write a b).get a' = m.get a' := by
  induction m with
  | nil => simp [Memory.write, Memory.get, h]
  | cons c cells ih =>
    obtain ⟨i, x⟩ := c
    unfold Memory.write
    split
    · simp [Memory.get, h]
    · split
      · next h1 h2 => subst h2; simp [Memory.get, h]
      · simp [Memory.get, ih]

/-- One byte is written: a read answers it there and what was before elsewhere. -/
theorem Memory.get_write (m : Memory) (a a' : Nat) (b : Byte) :
    (m.write a b).get a' = if a' = a then some b else m.get a' := by
  split
  · next h => subst h; exact m.get_write_same a' b
  · next h => exact m.get_write_other a a' b h

/-- A byte sequence is written: byte `k` is at index `a + k`, every other index reads as before. -/
theorem Memory.get_writeBytes (bs : List Byte) (m : Memory) (a i : Nat) :
    (m.writeBytes a bs).get i =
      if a ≤ i ∧ i < a + bs.length then bs[i - a]? else m.get i := by
  induction bs generalizing m a with
  | nil => simp [Memory.writeBytes]
  | cons b bs ih =>
    rw [Memory.writeBytes, ih, Memory.get_write]
    by_cases h : i = a
    · subst h; simp
    · by_cases h' : a < i
      · obtain ⟨k, rfl⟩ : ∃ k, i = a + 1 + k := ⟨i - (a + 1), by omega⟩
        have e : a + 1 + k - a = k + 1 := by omega
        simp only [List.length_cons, e, List.getElem?_cons_succ, Nat.add_sub_cancel_left]
        congr 1
        · simp only [eq_iff_iff]; omega
        · simp; omega
      · simp only [List.length_cons]
        rw [if_neg (by omega), if_neg h, if_neg (by omega)]

/-- The byte space of a byte sequence holds exactly its bytes. -/
theorem Memory.get_ofBytes (bs : List Byte) (a i : Nat) :
    (Memory.ofBytes a bs).get i = if a ≤ i then bs[i - a]? else none := by
  induction bs generalizing a with
  | nil => simp [Memory.ofBytes]
  | cons b bs ih =>
    rw [Memory.ofBytes, Memory.get, ih]
    by_cases h : i = a
    · subst h; simp
    · by_cases h' : a < i
      · obtain ⟨k, rfl⟩ : ∃ k, i = a + 1 + k := ⟨i - (a + 1), by omega⟩
        have e : a + 1 + k - a = k + 1 := by omega
        simp [h, e]
        omega
      · rw [if_neg h, if_neg (by omega), if_neg (by omega)]

/-! ### The canonical form -/

theorem Memory.wf_cons (i : Nat) (c : Byte) (m : Memory) :
    Memory.wf ((i, c) :: m) = true ↔ Memory.from (i + 1) m ∧ m.wf = true := by
  induction m generalizing i c with
  | nil => simp [Memory.wf, Memory.from]
  | cons d cells ih =>
    obtain ⟨j, x⟩ := d
    rw [Memory.wf, Bool.and_eq_true, decide_eq_true_eq, ih]
    simp only [Memory.from, List.mem_cons, forall_eq_or_imp]
    constructor
    · rintro ⟨h, h1, h2⟩
      exact ⟨⟨h, fun c hc => by have := h1 c hc; omega⟩, h1, h2⟩
    · rintro ⟨⟨h, _⟩, h1, h2⟩
      exact ⟨h, h1, h2⟩

theorem Memory.mem_write {m : Memory} {a : Nat} {b : Byte} {c : Host.Cell}
    (h : c ∈ m.write a b) : c = (a, b) ∨ c ∈ m := by
  induction m with
  | nil => simpa [Memory.write] using h
  | cons d cells ih =>
    obtain ⟨i, x⟩ := d
    unfold Memory.write at h
    split at h
    · simpa using h
    · split at h
      · rcases List.mem_cons.1 h with h | h
        · exact .inl h
        · exact .inr (List.mem_cons_of_mem _ h)
      · rcases List.mem_cons.1 h with h | h
        · exact .inr (h ▸ List.mem_cons_self)
        · exact (ih h).imp id (List.mem_cons_of_mem _)

/-- A write keeps the canonical form. -/
theorem Memory.wf_write (m : Memory) (a : Nat) (b : Byte) (h : m.wf = true) :
    (m.write a b).wf = true := by
  induction m with
  | nil => rfl
  | cons d cells ih =>
    obtain ⟨i, x⟩ := d
    have h' := (Memory.wf_cons i x cells).1 h
    unfold Memory.write
    split
    · next h1 =>
      refine (Memory.wf_cons _ _ _).2 ⟨?_, h⟩
      intro c hc
      rcases List.mem_cons.1 hc with rfl | hc
      · exact h1
      · have := h'.1 c hc; omega
    · split
      · next h1 h2 =>
        subst h2
        exact (Memory.wf_cons _ _ _).2 h'
      · next h1 h2 =>
        refine (Memory.wf_cons _ _ _).2 ⟨?_, ih h'.2⟩
        intro c hc
        rcases Memory.mem_write hc with rfl | hc
        · show i + 1 ≤ a; omega
        · exact h'.1 c hc

/-- Writing a byte sequence keeps the canonical form. -/
theorem Memory.wf_writeBytes (bs : List Byte) (m : Memory) (a : Nat) (h : m.wf = true) :
    (m.writeBytes a bs).wf = true := by
  induction bs generalizing m a with
  | nil => exact h
  | cons b bs ih => exact ih _ _ (m.wf_write a b h)

theorem Memory.from_ofBytes (bs : List Byte) (a : Nat) : Memory.from a (Memory.ofBytes a bs) := by
  induction bs generalizing a with
  | nil => simp [Memory.ofBytes, Memory.from]
  | cons b bs ih =>
    intro c hc
    rcases List.mem_cons.1 hc with rfl | hc
    · exact Nat.le_refl _
    · have := ih (a + 1) c hc; omega

/-- The byte space of a byte sequence has the canonical form. -/
theorem Memory.wf_ofBytes (bs : List Byte) (a : Nat) : (Memory.ofBytes a bs).wf = true := by
  induction bs generalizing a with
  | nil => rfl
  | cons b bs ih => exact (Memory.wf_cons _ _ _).2 ⟨Memory.from_ofBytes bs (a + 1), ih (a + 1)⟩

/-- The byte spaces of the reset state have the canonical form. -/
theorem State.reset_wf : State.reset.eb.wf = true ∧ State.reset.rx.wf = true := ⟨rfl, rfl⟩

end Sys2Proof.Machine
end

