-- ==== Sys2Proof/Laws/State.lean ====
section
/-! SUPPORT. What each named update of the state leaves in each field: true by rfl, tagged simp, so that no
later proof unfolds a record update. -/

namespace Sys2Proof.Machine

variable (s : State)

/-! ### answer -/

@[simp] theorem State.answer_throttle (a : Agent) (r : Response) : (s.answer a r).throttle = s.throttle := rfl
@[simp] theorem State.answer_roll (a : Agent) (r : Response) : (s.answer a r).roll = s.roll := rfl
@[simp] theorem State.answer_aux1 (a : Agent) (r : Response) : (s.answer a r).aux1 = s.aux1 := rfl
@[simp] theorem State.answer_aux2 (a : Agent) (r : Response) : (s.answer a r).aux2 = s.aux2 := rfl
@[simp] theorem State.answer_speedLimit (a : Agent) (r : Response) : (s.answer a r).speedLimit = s.speedLimit := rfl
@[simp] theorem State.answer_auto (a : Agent) (r : Response) : (s.answer a r).auto = s.auto := rfl
@[simp] theorem State.answer_heldAuto (a : Agent) (r : Response) : (s.answer a r).heldAuto = s.heldAuto := rfl
@[simp] theorem State.answer_heldAux2 (a : Agent) (r : Response) : (s.answer a r).heldAux2 = s.heldAux2 := rfl
@[simp] theorem State.answer_cfgP (a : Agent) (r : Response) : (s.answer a r).cfgP = s.cfgP := rfl
@[simp] theorem State.answer_cfgI (a : Agent) (r : Response) : (s.answer a r).cfgI = s.cfgI := rfl
@[simp] theorem State.answer_cfgD (a : Agent) (r : Response) : (s.answer a r).cfgD = s.cfgD := rfl
@[simp] theorem State.answer_run (a : Agent) (r : Response) : (s.answer a r).run = s.run := rfl
@[simp] theorem State.answer_paused (a : Agent) (r : Response) : (s.answer a r).paused = s.paused := rfl
@[simp] theorem State.answer_connected (a : Agent) (r : Response) : (s.answer a r).connected = s.connected := rfl
@[simp] theorem State.answer_tickCnt (a : Agent) (r : Response) : (s.answer a r).tickCnt = s.tickCnt := rfl
@[simp] theorem State.answer_encOpen (a : Agent) (r : Response) : (s.answer a r).encOpen = s.encOpen := rfl
@[simp] theorem State.answer_wcur (a : Agent) (r : Response) : (s.answer a r).wcur = s.wcur := rfl
@[simp] theorem State.answer_eb (a : Agent) (r : Response) : (s.answer a r).eb = s.eb := rfl
@[simp] theorem State.answer_rxLoaded (a : Agent) (r : Response) : (s.answer a r).rxLoaded = s.rxLoaded := rfl
@[simp] theorem State.answer_rxOk (a : Agent) (r : Response) : (s.answer a r).rxOk = s.rxOk := rfl
@[simp] theorem State.answer_rxCause (a : Agent) (r : Response) : (s.answer a r).rxCause = s.rxCause := rfl
@[simp] theorem State.answer_rxFtype (a : Agent) (r : Response) : (s.answer a r).rxFtype = s.rxFtype := rfl
@[simp] theorem State.answer_rxLen (a : Agent) (r : Response) : (s.answer a r).rxLen = s.rxLen := rfl
@[simp] theorem State.answer_rx (a : Agent) (r : Response) : (s.answer a r).rx = s.rx := rfl
@[simp] theorem State.answer_fReentrant (a : Agent) (r : Response) : (s.answer a r).fReentrant = s.fReentrant := rfl
@[simp] theorem State.answer_fNotOpen (a : Agent) (r : Response) : (s.answer a r).fNotOpen = s.fNotOpen := rfl
@[simp] theorem State.answer_fIllegal (a : Agent) (r : Response) : (s.answer a r).fIllegal = s.fIllegal := rfl
@[simp] theorem State.answer_inputs (a : Agent) (r : Response) : (s.answer a r).inputs = s.inputs := rfl
@[simp] theorem State.answer_answers (a : Agent) (r : Response) : (s.answer a r).answers = s.answers ++ [⟨a, r⟩] := rfl
@[simp] theorem State.answer_txOut (a : Agent) (r : Response) : (s.answer a r).txOut = s.txOut := rfl
@[simp] theorem State.answer_rxOut (a : Agent) (r : Response) : (s.answer a r).rxOut = s.rxOut := rfl

/-! ### pushTx -/

@[simp] theorem State.pushTx_throttle (f : List Byte) : (s.pushTx f).throttle = s.throttle := rfl
@[simp] theorem State.pushTx_roll (f : List Byte) : (s.pushTx f).roll = s.roll := rfl
@[simp] theorem State.pushTx_aux1 (f : List Byte) : (s.pushTx f).aux1 = s.aux1 := rfl
@[simp] theorem State.pushTx_aux2 (f : List Byte) : (s.pushTx f).aux2 = s.aux2 := rfl
@[simp] theorem State.pushTx_speedLimit (f : List Byte) : (s.pushTx f).speedLimit = s.speedLimit := rfl
@[simp] theorem State.pushTx_auto (f : List Byte) : (s.pushTx f).auto = s.auto := rfl
@[simp] theorem State.pushTx_heldAuto (f : List Byte) : (s.pushTx f).heldAuto = s.heldAuto := rfl
@[simp] theorem State.pushTx_heldAux2 (f : List Byte) : (s.pushTx f).heldAux2 = s.heldAux2 := rfl
@[simp] theorem State.pushTx_cfgP (f : List Byte) : (s.pushTx f).cfgP = s.cfgP := rfl
@[simp] theorem State.pushTx_cfgI (f : List Byte) : (s.pushTx f).cfgI = s.cfgI := rfl
@[simp] theorem State.pushTx_cfgD (f : List Byte) : (s.pushTx f).cfgD = s.cfgD := rfl
@[simp] theorem State.pushTx_run (f : List Byte) : (s.pushTx f).run = s.run := rfl
@[simp] theorem State.pushTx_paused (f : List Byte) : (s.pushTx f).paused = s.paused := rfl
@[simp] theorem State.pushTx_connected (f : List Byte) : (s.pushTx f).connected = s.connected := rfl
@[simp] theorem State.pushTx_tickCnt (f : List Byte) : (s.pushTx f).tickCnt = s.tickCnt := rfl
@[simp] theorem State.pushTx_encOpen (f : List Byte) : (s.pushTx f).encOpen = s.encOpen := rfl
@[simp] theorem State.pushTx_wcur (f : List Byte) : (s.pushTx f).wcur = s.wcur := rfl
@[simp] theorem State.pushTx_eb (f : List Byte) : (s.pushTx f).eb = s.eb := rfl
@[simp] theorem State.pushTx_rxLoaded (f : List Byte) : (s.pushTx f).rxLoaded = s.rxLoaded := rfl
@[simp] theorem State.pushTx_rxOk (f : List Byte) : (s.pushTx f).rxOk = s.rxOk := rfl
@[simp] theorem State.pushTx_rxCause (f : List Byte) : (s.pushTx f).rxCause = s.rxCause := rfl
@[simp] theorem State.pushTx_rxFtype (f : List Byte) : (s.pushTx f).rxFtype = s.rxFtype := rfl
@[simp] theorem State.pushTx_rxLen (f : List Byte) : (s.pushTx f).rxLen = s.rxLen := rfl
@[simp] theorem State.pushTx_rx (f : List Byte) : (s.pushTx f).rx = s.rx := rfl
@[simp] theorem State.pushTx_fReentrant (f : List Byte) : (s.pushTx f).fReentrant = s.fReentrant := rfl
@[simp] theorem State.pushTx_fNotOpen (f : List Byte) : (s.pushTx f).fNotOpen = s.fNotOpen := rfl
@[simp] theorem State.pushTx_fIllegal (f : List Byte) : (s.pushTx f).fIllegal = s.fIllegal := rfl
@[simp] theorem State.pushTx_inputs (f : List Byte) : (s.pushTx f).inputs = s.inputs := rfl
@[simp] theorem State.pushTx_answers (f : List Byte) : (s.pushTx f).answers = s.answers := rfl
@[simp] theorem State.pushTx_txOut (f : List Byte) : (s.pushTx f).txOut = s.txOut ++ [f] := rfl
@[simp] theorem State.pushTx_rxOut (f : List Byte) : (s.pushTx f).rxOut = s.rxOut := rfl

/-! ### pushRx -/

@[simp] theorem State.pushRx_throttle (item : RxItem) : (s.pushRx item).throttle = s.throttle := rfl
@[simp] theorem State.pushRx_roll (item : RxItem) : (s.pushRx item).roll = s.roll := rfl
@[simp] theorem State.pushRx_aux1 (item : RxItem) : (s.pushRx item).aux1 = s.aux1 := rfl
@[simp] theorem State.pushRx_aux2 (item : RxItem) : (s.pushRx item).aux2 = s.aux2 := rfl
@[simp] theorem State.pushRx_speedLimit (item : RxItem) : (s.pushRx item).speedLimit = s.speedLimit := rfl
@[simp] theorem State.pushRx_auto (item : RxItem) : (s.pushRx item).auto = s.auto := rfl
@[simp] theorem State.pushRx_heldAuto (item : RxItem) : (s.pushRx item).heldAuto = s.heldAuto := rfl
@[simp] theorem State.pushRx_heldAux2 (item : RxItem) : (s.pushRx item).heldAux2 = s.heldAux2 := rfl
@[simp] theorem State.pushRx_cfgP (item : RxItem) : (s.pushRx item).cfgP = s.cfgP := rfl
@[simp] theorem State.pushRx_cfgI (item : RxItem) : (s.pushRx item).cfgI = s.cfgI := rfl
@[simp] theorem State.pushRx_cfgD (item : RxItem) : (s.pushRx item).cfgD = s.cfgD := rfl
@[simp] theorem State.pushRx_run (item : RxItem) : (s.pushRx item).run = s.run := rfl
@[simp] theorem State.pushRx_paused (item : RxItem) : (s.pushRx item).paused = s.paused := rfl
@[simp] theorem State.pushRx_connected (item : RxItem) : (s.pushRx item).connected = s.connected := rfl
@[simp] theorem State.pushRx_tickCnt (item : RxItem) : (s.pushRx item).tickCnt = s.tickCnt := rfl
@[simp] theorem State.pushRx_encOpen (item : RxItem) : (s.pushRx item).encOpen = s.encOpen := rfl
@[simp] theorem State.pushRx_wcur (item : RxItem) : (s.pushRx item).wcur = s.wcur := rfl
@[simp] theorem State.pushRx_eb (item : RxItem) : (s.pushRx item).eb = s.eb := rfl
@[simp] theorem State.pushRx_rxLoaded (item : RxItem) : (s.pushRx item).rxLoaded = s.rxLoaded := rfl
@[simp] theorem State.pushRx_rxOk (item : RxItem) : (s.pushRx item).rxOk = s.rxOk := rfl
@[simp] theorem State.pushRx_rxCause (item : RxItem) : (s.pushRx item).rxCause = s.rxCause := rfl
@[simp] theorem State.pushRx_rxFtype (item : RxItem) : (s.pushRx item).rxFtype = s.rxFtype := rfl
@[simp] theorem State.pushRx_rxLen (item : RxItem) : (s.pushRx item).rxLen = s.rxLen := rfl
@[simp] theorem State.pushRx_rx (item : RxItem) : (s.pushRx item).rx = s.rx := rfl
@[simp] theorem State.pushRx_fReentrant (item : RxItem) : (s.pushRx item).fReentrant = s.fReentrant := rfl
@[simp] theorem State.pushRx_fNotOpen (item : RxItem) : (s.pushRx item).fNotOpen = s.fNotOpen := rfl
@[simp] theorem State.pushRx_fIllegal (item : RxItem) : (s.pushRx item).fIllegal = s.fIllegal := rfl
@[simp] theorem State.pushRx_inputs (item : RxItem) : (s.pushRx item).inputs = s.inputs := rfl
@[simp] theorem State.pushRx_answers (item : RxItem) : (s.pushRx item).answers = s.answers := rfl
@[simp] theorem State.pushRx_txOut (item : RxItem) : (s.pushRx item).txOut = s.txOut := rfl
@[simp] theorem State.pushRx_rxOut (item : RxItem) : (s.pushRx item).rxOut = s.rxOut ++ [item] := rfl

/-! ### present -/

@[simp] theorem State.present_throttle (st : Stimulus) : (s.present st).throttle = s.throttle := rfl
@[simp] theorem State.present_roll (st : Stimulus) : (s.present st).roll = s.roll := rfl
@[simp] theorem State.present_aux1 (st : Stimulus) : (s.present st).aux1 = s.aux1 := rfl
@[simp] theorem State.present_aux2 (st : Stimulus) : (s.present st).aux2 = s.aux2 := rfl
@[simp] theorem State.present_speedLimit (st : Stimulus) : (s.present st).speedLimit = s.speedLimit := rfl
@[simp] theorem State.present_auto (st : Stimulus) : (s.present st).auto = s.auto := rfl
@[simp] theorem State.present_heldAuto (st : Stimulus) : (s.present st).heldAuto = s.heldAuto := rfl
@[simp] theorem State.present_heldAux2 (st : Stimulus) : (s.present st).heldAux2 = s.heldAux2 := rfl
@[simp] theorem State.present_cfgP (st : Stimulus) : (s.present st).cfgP = s.cfgP := rfl
@[simp] theorem State.present_cfgI (st : Stimulus) : (s.present st).cfgI = s.cfgI := rfl
@[simp] theorem State.present_cfgD (st : Stimulus) : (s.present st).cfgD = s.cfgD := rfl
@[simp] theorem State.present_run (st : Stimulus) : (s.present st).run = s.run := rfl
@[simp] theorem State.present_paused (st : Stimulus) : (s.present st).paused = s.paused := rfl
@[simp] theorem State.present_connected (st : Stimulus) : (s.present st).connected = s.connected := rfl
@[simp] theorem State.present_tickCnt (st : Stimulus) : (s.present st).tickCnt = s.tickCnt := rfl
@[simp] theorem State.present_encOpen (st : Stimulus) : (s.present st).encOpen = s.encOpen := rfl
@[simp] theorem State.present_wcur (st : Stimulus) : (s.present st).wcur = s.wcur := rfl
@[simp] theorem State.present_eb (st : Stimulus) : (s.present st).eb = s.eb := rfl
@[simp] theorem State.present_rxLoaded (st : Stimulus) : (s.present st).rxLoaded = s.rxLoaded := rfl
@[simp] theorem State.present_rxOk (st : Stimulus) : (s.present st).rxOk = s.rxOk := rfl
@[simp] theorem State.present_rxCause (st : Stimulus) : (s.present st).rxCause = s.rxCause := rfl
@[simp] theorem State.present_rxFtype (st : Stimulus) : (s.present st).rxFtype = s.rxFtype := rfl
@[simp] theorem State.present_rxLen (st : Stimulus) : (s.present st).rxLen = s.rxLen := rfl
@[simp] theorem State.present_rx (st : Stimulus) : (s.present st).rx = s.rx := rfl
@[simp] theorem State.present_fReentrant (st : Stimulus) : (s.present st).fReentrant = s.fReentrant := rfl
@[simp] theorem State.present_fNotOpen (st : Stimulus) : (s.present st).fNotOpen = s.fNotOpen := rfl
@[simp] theorem State.present_fIllegal (st : Stimulus) : (s.present st).fIllegal = s.fIllegal := rfl
@[simp] theorem State.present_inputs (st : Stimulus) : (s.present st).inputs = .op st :: s.inputs := rfl
@[simp] theorem State.present_answers (st : Stimulus) : (s.present st).answers = s.answers := rfl
@[simp] theorem State.present_txOut (st : Stimulus) : (s.present st).txOut = s.txOut := rfl
@[simp] theorem State.present_rxOut (st : Stimulus) : (s.present st).rxOut = s.rxOut := rfl

/-! ### loadRx -/

@[simp] theorem State.loadRx_throttle (bytes : List Byte) : (s.loadRx bytes).throttle = s.throttle := rfl
@[simp] theorem State.loadRx_roll (bytes : List Byte) : (s.loadRx bytes).roll = s.roll := rfl
@[simp] theorem State.loadRx_aux1 (bytes : List Byte) : (s.loadRx bytes).aux1 = s.aux1 := rfl
@[simp] theorem State.loadRx_aux2 (bytes : List Byte) : (s.loadRx bytes).aux2 = s.aux2 := rfl
@[simp] theorem State.loadRx_speedLimit (bytes : List Byte) : (s.loadRx bytes).speedLimit = s.speedLimit := rfl
@[simp] theorem State.loadRx_auto (bytes : List Byte) : (s.loadRx bytes).auto = s.auto := rfl
@[simp] theorem State.loadRx_heldAuto (bytes : List Byte) : (s.loadRx bytes).heldAuto = s.heldAuto := rfl
@[simp] theorem State.loadRx_heldAux2 (bytes : List Byte) : (s.loadRx bytes).heldAux2 = s.heldAux2 := rfl
@[simp] theorem State.loadRx_cfgP (bytes : List Byte) : (s.loadRx bytes).cfgP = s.cfgP := rfl
@[simp] theorem State.loadRx_cfgI (bytes : List Byte) : (s.loadRx bytes).cfgI = s.cfgI := rfl
@[simp] theorem State.loadRx_cfgD (bytes : List Byte) : (s.loadRx bytes).cfgD = s.cfgD := rfl
@[simp] theorem State.loadRx_run (bytes : List Byte) : (s.loadRx bytes).run = s.run := rfl
@[simp] theorem State.loadRx_paused (bytes : List Byte) : (s.loadRx bytes).paused = s.paused := rfl
@[simp] theorem State.loadRx_connected (bytes : List Byte) : (s.loadRx bytes).connected = s.connected := rfl
@[simp] theorem State.loadRx_tickCnt (bytes : List Byte) : (s.loadRx bytes).tickCnt = s.tickCnt := rfl
@[simp] theorem State.loadRx_encOpen (bytes : List Byte) : (s.loadRx bytes).encOpen = s.encOpen := rfl
@[simp] theorem State.loadRx_wcur (bytes : List Byte) : (s.loadRx bytes).wcur = s.wcur := rfl
@[simp] theorem State.loadRx_eb (bytes : List Byte) : (s.loadRx bytes).eb = s.eb := rfl
@[simp] theorem State.loadRx_rxLoaded (bytes : List Byte) : (s.loadRx bytes).rxLoaded = true := rfl
@[simp] theorem State.loadRx_rxOk (bytes : List Byte) : (s.loadRx bytes).rxOk = s.rxOk := rfl
@[simp] theorem State.loadRx_rxCause (bytes : List Byte) : (s.loadRx bytes).rxCause = s.rxCause := rfl
@[simp] theorem State.loadRx_rxFtype (bytes : List Byte) : (s.loadRx bytes).rxFtype = s.rxFtype := rfl
@[simp] theorem State.loadRx_rxLen (bytes : List Byte) : (s.loadRx bytes).rxLen = BitVec.ofNat 9 (min bytes.length Config.rxLenMax) := rfl
@[simp] theorem State.loadRx_rx (bytes : List Byte) : (s.loadRx bytes).rx = Memory.ofBytes 0 (bytes.take Config.rxbufSize) := rfl
@[simp] theorem State.loadRx_fReentrant (bytes : List Byte) : (s.loadRx bytes).fReentrant = s.fReentrant := rfl
@[simp] theorem State.loadRx_fNotOpen (bytes : List Byte) : (s.loadRx bytes).fNotOpen = s.fNotOpen := rfl
@[simp] theorem State.loadRx_fIllegal (bytes : List Byte) : (s.loadRx bytes).fIllegal = s.fIllegal := rfl
@[simp] theorem State.loadRx_inputs (bytes : List Byte) : (s.loadRx bytes).inputs = s.inputs := rfl
@[simp] theorem State.loadRx_answers (bytes : List Byte) : (s.loadRx bytes).answers = s.answers := rfl
@[simp] theorem State.loadRx_txOut (bytes : List Byte) : (s.loadRx bytes).txOut = s.txOut := rfl
@[simp] theorem State.loadRx_rxOut (bytes : List Byte) : (s.loadRx bytes).rxOut = s.rxOut := rfl

/-! ### setFault -/

@[simp] theorem State.setFault_throttle (b : FaultBit) : (s.setFault b).throttle = s.throttle := by
  cases b <;> rfl
@[simp] theorem State.setFault_roll (b : FaultBit) : (s.setFault b).roll = s.roll := by
  cases b <;> rfl
@[simp] theorem State.setFault_aux1 (b : FaultBit) : (s.setFault b).aux1 = s.aux1 := by
  cases b <;> rfl
@[simp] theorem State.setFault_aux2 (b : FaultBit) : (s.setFault b).aux2 = s.aux2 := by
  cases b <;> rfl
@[simp] theorem State.setFault_speedLimit (b : FaultBit) : (s.setFault b).speedLimit = s.speedLimit := by
  cases b <;> rfl
@[simp] theorem State.setFault_auto (b : FaultBit) : (s.setFault b).auto = s.auto := by
  cases b <;> rfl
@[simp] theorem State.setFault_heldAuto (b : FaultBit) : (s.setFault b).heldAuto = s.heldAuto := by
  cases b <;> rfl
@[simp] theorem State.setFault_heldAux2 (b : FaultBit) : (s.setFault b).heldAux2 = s.heldAux2 := by
  cases b <;> rfl
@[simp] theorem State.setFault_cfgP (b : FaultBit) : (s.setFault b).cfgP = s.cfgP := by
  cases b <;> rfl
@[simp] theorem State.setFault_cfgI (b : FaultBit) : (s.setFault b).cfgI = s.cfgI := by
  cases b <;> rfl
@[simp] theorem State.setFault_cfgD (b : FaultBit) : (s.setFault b).cfgD = s.cfgD := by
  cases b <;> rfl
@[simp] theorem State.setFault_run (b : FaultBit) : (s.setFault b).run = s.run := by
  cases b <;> rfl
@[simp] theorem State.setFault_paused (b : FaultBit) : (s.setFault b).paused = s.paused := by
  cases b <;> rfl
@[simp] theorem State.setFault_connected (b : FaultBit) : (s.setFault b).connected = s.connected := by
  cases b <;> rfl
@[simp] theorem State.setFault_tickCnt (b : FaultBit) : (s.setFault b).tickCnt = s.tickCnt := by
  cases b <;> rfl
@[simp] theorem State.setFault_encOpen (b : FaultBit) : (s.setFault b).encOpen = s.encOpen := by
  cases b <;> rfl
@[simp] theorem State.setFault_wcur (b : FaultBit) : (s.setFault b).wcur = s.wcur := by
  cases b <;> rfl
@[simp] theorem State.setFault_eb (b : FaultBit) : (s.setFault b).eb = s.eb := by
  cases b <;> rfl
@[simp] theorem State.setFault_rxLoaded (b : FaultBit) : (s.setFault b).rxLoaded = s.rxLoaded := by
  cases b <;> rfl
@[simp] theorem State.setFault_rxOk (b : FaultBit) : (s.setFault b).rxOk = s.rxOk := by
  cases b <;> rfl
@[simp] theorem State.setFault_rxCause (b : FaultBit) : (s.setFault b).rxCause = s.rxCause := by
  cases b <;> rfl
@[simp] theorem State.setFault_rxFtype (b : FaultBit) : (s.setFault b).rxFtype = s.rxFtype := by
  cases b <;> rfl
@[simp] theorem State.setFault_rxLen (b : FaultBit) : (s.setFault b).rxLen = s.rxLen := by
  cases b <;> rfl
@[simp] theorem State.setFault_rx (b : FaultBit) : (s.setFault b).rx = s.rx := by
  cases b <;> rfl
@[simp] theorem State.setFault_fReentrant (b : FaultBit) :
    (s.setFault b).fReentrant = (s.fReentrant || b == .reentrant) := by
  cases b <;> simp [State.setFault]
@[simp] theorem State.setFault_fNotOpen (b : FaultBit) :
    (s.setFault b).fNotOpen = (s.fNotOpen || b == .notOpen) := by
  cases b <;> simp [State.setFault]
@[simp] theorem State.setFault_fIllegal (b : FaultBit) :
    (s.setFault b).fIllegal = (s.fIllegal || b == .illegal) := by
  cases b <;> simp [State.setFault]
@[simp] theorem State.setFault_inputs (b : FaultBit) : (s.setFault b).inputs = s.inputs := by
  cases b <;> rfl
@[simp] theorem State.setFault_answers (b : FaultBit) : (s.setFault b).answers = s.answers := by
  cases b <;> rfl
@[simp] theorem State.setFault_txOut (b : FaultBit) : (s.setFault b).txOut = s.txOut := by
  cases b <;> rfl
@[simp] theorem State.setFault_rxOut (b : FaultBit) : (s.setFault b).rxOut = s.rxOut := by
  cases b <;> rfl

/-! ### resetBlock -/

@[simp] theorem State.resetBlock_throttle : s.resetBlock.throttle = State.reset.throttle := rfl
@[simp] theorem State.resetBlock_roll : s.resetBlock.roll = State.reset.roll := rfl
@[simp] theorem State.resetBlock_aux1 : s.resetBlock.aux1 = State.reset.aux1 := rfl
@[simp] theorem State.resetBlock_aux2 : s.resetBlock.aux2 = State.reset.aux2 := rfl
@[simp] theorem State.resetBlock_speedLimit : s.resetBlock.speedLimit = State.reset.speedLimit := rfl
@[simp] theorem State.resetBlock_auto : s.resetBlock.auto = State.reset.auto := rfl
@[simp] theorem State.resetBlock_heldAuto : s.resetBlock.heldAuto = State.reset.heldAuto := rfl
@[simp] theorem State.resetBlock_heldAux2 : s.resetBlock.heldAux2 = State.reset.heldAux2 := rfl
@[simp] theorem State.resetBlock_cfgP : s.resetBlock.cfgP = State.reset.cfgP := rfl
@[simp] theorem State.resetBlock_cfgI : s.resetBlock.cfgI = State.reset.cfgI := rfl
@[simp] theorem State.resetBlock_cfgD : s.resetBlock.cfgD = State.reset.cfgD := rfl
@[simp] theorem State.resetBlock_run : s.resetBlock.run = State.reset.run := rfl
@[simp] theorem State.resetBlock_paused : s.resetBlock.paused = State.reset.paused := rfl
@[simp] theorem State.resetBlock_connected : s.resetBlock.connected = State.reset.connected := rfl
@[simp] theorem State.resetBlock_tickCnt : s.resetBlock.tickCnt = State.reset.tickCnt := rfl
@[simp] theorem State.resetBlock_encOpen : s.resetBlock.encOpen = State.reset.encOpen := rfl
@[simp] theorem State.resetBlock_wcur : s.resetBlock.wcur = State.reset.wcur := rfl
@[simp] theorem State.resetBlock_eb : s.resetBlock.eb = State.reset.eb := rfl
@[simp] theorem State.resetBlock_rxLoaded : s.resetBlock.rxLoaded = State.reset.rxLoaded := rfl
@[simp] theorem State.resetBlock_rxOk : s.resetBlock.rxOk = State.reset.rxOk := rfl
@[simp] theorem State.resetBlock_rxCause : s.resetBlock.rxCause = State.reset.rxCause := rfl
@[simp] theorem State.resetBlock_rxFtype : s.resetBlock.rxFtype = State.reset.rxFtype := rfl
@[simp] theorem State.resetBlock_rxLen : s.resetBlock.rxLen = State.reset.rxLen := rfl
@[simp] theorem State.resetBlock_rx : s.resetBlock.rx = State.reset.rx := rfl
@[simp] theorem State.resetBlock_fReentrant : s.resetBlock.fReentrant = State.reset.fReentrant := rfl
@[simp] theorem State.resetBlock_fNotOpen : s.resetBlock.fNotOpen = State.reset.fNotOpen := rfl
@[simp] theorem State.resetBlock_fIllegal : s.resetBlock.fIllegal = State.reset.fIllegal := rfl
@[simp] theorem State.resetBlock_inputs : s.resetBlock.inputs = s.inputs := rfl
@[simp] theorem State.resetBlock_answers : s.resetBlock.answers = s.answers := rfl
@[simp] theorem State.resetBlock_txOut : s.resetBlock.txOut = s.txOut := rfl
@[simp] theorem State.resetBlock_rxOut : s.resetBlock.rxOut = s.rxOut := rfl

/-! ### sealWrites -/

@[simp] theorem State.sealWrites_throttle : s.sealWrites.throttle = s.throttle := rfl
@[simp] theorem State.sealWrites_roll : s.sealWrites.roll = s.roll := rfl
@[simp] theorem State.sealWrites_aux1 : s.sealWrites.aux1 = s.aux1 := rfl
@[simp] theorem State.sealWrites_aux2 : s.sealWrites.aux2 = s.aux2 := rfl
@[simp] theorem State.sealWrites_speedLimit : s.sealWrites.speedLimit = s.speedLimit := rfl
@[simp] theorem State.sealWrites_auto : s.sealWrites.auto = s.auto := rfl
@[simp] theorem State.sealWrites_heldAuto : s.sealWrites.heldAuto = s.heldAuto := rfl
@[simp] theorem State.sealWrites_heldAux2 : s.sealWrites.heldAux2 = s.heldAux2 := rfl
@[simp] theorem State.sealWrites_cfgP : s.sealWrites.cfgP = s.cfgP := rfl
@[simp] theorem State.sealWrites_cfgI : s.sealWrites.cfgI = s.cfgI := rfl
@[simp] theorem State.sealWrites_cfgD : s.sealWrites.cfgD = s.cfgD := rfl
@[simp] theorem State.sealWrites_run : s.sealWrites.run = s.run := rfl
@[simp] theorem State.sealWrites_paused : s.sealWrites.paused = s.paused := rfl
@[simp] theorem State.sealWrites_connected : s.sealWrites.connected = s.connected := rfl
@[simp] theorem State.sealWrites_tickCnt : s.sealWrites.tickCnt = s.tickCnt := rfl
@[simp] theorem State.sealWrites_encOpen : s.sealWrites.encOpen = s.encOpen := rfl
@[simp] theorem State.sealWrites_wcur : s.sealWrites.wcur = s.wcur := rfl
@[simp] theorem State.sealWrites_rxLoaded : s.sealWrites.rxLoaded = s.rxLoaded := rfl
@[simp] theorem State.sealWrites_rxOk : s.sealWrites.rxOk = s.rxOk := rfl
@[simp] theorem State.sealWrites_rxCause : s.sealWrites.rxCause = s.rxCause := rfl
@[simp] theorem State.sealWrites_rxFtype : s.sealWrites.rxFtype = s.rxFtype := rfl
@[simp] theorem State.sealWrites_rxLen : s.sealWrites.rxLen = s.rxLen := rfl
@[simp] theorem State.sealWrites_rx : s.sealWrites.rx = s.rx := rfl
@[simp] theorem State.sealWrites_fReentrant : s.sealWrites.fReentrant = s.fReentrant := rfl
@[simp] theorem State.sealWrites_fNotOpen : s.sealWrites.fNotOpen = s.fNotOpen := rfl
@[simp] theorem State.sealWrites_fIllegal : s.sealWrites.fIllegal = s.fIllegal := rfl
@[simp] theorem State.sealWrites_inputs : s.sealWrites.inputs = s.inputs := rfl
@[simp] theorem State.sealWrites_answers : s.sealWrites.answers = s.answers := rfl
@[simp] theorem State.sealWrites_txOut : s.sealWrites.txOut = s.txOut := rfl
@[simp] theorem State.sealWrites_rxOut : s.sealWrites.rxOut = s.rxOut := rfl

/-! ### The error outcomes are responses -/

@[simp] theorem State.raiseDecodeError_eq (a : Agent) (c : Cause) :
    s.raiseDecodeError a c = s.answer a (errorResponse .decodeError (c.code.setWidth 32)) := rfl
@[simp] theorem State.raiseTransportUnavailable_eq (a : Agent) :
    s.raiseTransportUnavailable a = s.answer a (errorResponse .transportUnavailable 0) := rfl
@[simp] theorem State.raiseRange_eq (a : Agent) :
    s.raiseRange a = s.answer a (errorResponse .rangeError 0) := rfl
@[simp] theorem State.respondDropped_eq (a : Agent) :
    s.respondDropped a = s.answer a (errorResponse .dropped 0) := rfl
@[simp] theorem State.respondFault_eq (a : Agent) :
    s.respondFault a = s.answer a (errorResponse .fault s.faultWord) := rfl
@[simp] theorem State.raiseFault_eq (a : Agent) (b : FaultBit) :
    s.raiseFault a b = (s.setFault b).answer a (errorResponse .fault (s.setFault b).faultWord) := rfl
@[simp] theorem State.raiseOverflow_eq (a : Agent) :
    s.raiseOverflow a =
      { s with encOpen := false, wcur := 0 }.answer a (errorResponse .encodeOverflow 0) := rfl
@[simp] theorem State.answerMode_eq : s.answerMode = s.answer .host (okResponse s.mode 0 []) := rfl

/-! ### What reads the same after an output -/

@[simp] theorem State.answer_ebByte (a : Agent) (r : Response) (i : Nat) :
    (s.answer a r).ebByte i = s.ebByte i := rfl
@[simp] theorem State.answer_rxByte (a : Agent) (r : Response) (i : Nat) :
    (s.answer a r).rxByte i = s.rxByte i := rfl
@[simp] theorem State.answer_mode (a : Agent) (r : Response) : (s.answer a r).mode = s.mode := rfl
@[simp] theorem State.answer_halted (a : Agent) (r : Response) :
    (s.answer a r).halted = s.halted := rfl
@[simp] theorem State.pushTx_ebByte (f : List Byte) (i : Nat) :
    (s.pushTx f).ebByte i = s.ebByte i := rfl
@[simp] theorem State.pushTx_rxByte (f : List Byte) (i : Nat) :
    (s.pushTx f).rxByte i = s.rxByte i := rfl
@[simp] theorem State.pushTx_mode (f : List Byte) : (s.pushTx f).mode = s.mode := rfl
@[simp] theorem State.pushTx_halted (f : List Byte) : (s.pushTx f).halted = s.halted := rfl
@[simp] theorem State.pushRx_ebByte (item : RxItem) (i : Nat) :
    (s.pushRx item).ebByte i = s.ebByte i := rfl
@[simp] theorem State.pushRx_rxByte (item : RxItem) (i : Nat) :
    (s.pushRx item).rxByte i = s.rxByte i := rfl
@[simp] theorem State.pushRx_mode (item : RxItem) : (s.pushRx item).mode = s.mode := rfl
@[simp] theorem State.pushRx_halted (item : RxItem) : (s.pushRx item).halted = s.halted := rfl
@[simp] theorem State.setFault_ebByte (b : FaultBit) (i : Nat) :
    (s.setFault b).ebByte i = s.ebByte i := by cases b <;> rfl
@[simp] theorem State.setFault_rxByte (b : FaultBit) (i : Nat) :
    (s.setFault b).rxByte i = s.rxByte i := by cases b <;> rfl
@[simp] theorem State.setFault_mode (b : FaultBit) : (s.setFault b).mode = s.mode := by
  cases b <;> rfl
@[simp] theorem State.setFault_halted (b : FaultBit) : (s.setFault b).halted = true := by
  cases b <;> simp [State.setFault, State.halted]

end Sys2Proof.Machine
end

