-- ==== Sys2Proof/Laws/Ops.lean ====
section
/-! SUPPORT. For each shared operation one lemma that says all it can do, so that a proof cites it and does not
unfold the operation. -/

namespace Sys2Proof.Machine

/-! ### The prologue, faults, reset, the next event -/

/-- The prologue of R270 on a block that is not halted runs the body. -/
@[simp] theorem unlessHalted_running {s : State} (h : s.halted = false) (a : Agent)
    (body : State → State) : unlessHalted a s body = .next (body s) := by
  simp [unlessHalted, h]

/-- The prologue of R270 on a halted block only answers (R268). -/
@[simp] theorem unlessHalted_halted {s : State} (h : s.halted = true) (a : Agent)
    (body : State → State) : unlessHalted a s body = .next (s.respondFault a) := by
  simp [unlessHalted, h]

/-- The prologue always answers a next state: the body's, or the fault response of a halted block. -/
theorem unlessHalted_cases {s t : State} {a : Agent} {body : State → State}
    (h : unlessHalted a s body = .next t) :
    (s.halted = true ∧ t = s.respondFault a) ∨ (s.halted = false ∧ t = body s) := by
  cases hh : s.halted <;> simp [hh] at h <;> simp [h]

/-- A block is not halted iff no fault bit is set (R33). -/
theorem State.halted_eq_false_iff (s : State) :
    s.halted = false ↔ s.fReentrant = false ∧ s.fNotOpen = false ∧ s.fIllegal = false := by
  simp [State.halted, and_assoc]

/-- `FAULT` of a block that is not halted is 0. -/
theorem State.faultWord_running {s : State} (h : s.halted = false) : s.faultWord = 0 := by
  obtain ⟨h1, h2, h3⟩ := s.halted_eq_false_iff.1 h
  simp [State.faultWord, h1, h2, h3, flagBit]

/-- Taking the fault of `BEGIN` (R267): one bit and the response. -/
theorem State.raiseFault_reentrant {s : State} (h : s.halted = false) (a : Agent) :
    s.raiseFault a .reentrant =
      { s with fReentrant := true, answers := s.answers ++ [⟨a, ⟨.fault, 1, 0, []⟩⟩] } := by
  obtain ⟨_, h2, h3⟩ := s.halted_eq_false_iff.1 h
  simp [State.raiseFault, State.setFault, State.respondFault, State.answer, errorResponse,
    State.faultWord, h2, h3, flagBit]

/-- Taking the fault of an append or `SEAL` with no builder open (R267): one bit and the response. -/
theorem State.raiseFault_notOpen {s : State} (h : s.halted = false) (a : Agent) :
    s.raiseFault a .notOpen =
      { s with fNotOpen := true, answers := s.answers ++ [⟨a, ⟨.fault, 2, 0, []⟩⟩] } := by
  obtain ⟨h1, _, h3⟩ := s.halted_eq_false_iff.1 h
  simp [State.raiseFault, State.setFault, State.respondFault, State.answer, errorResponse,
    State.faultWord, h1, h3, flagBit]

/-- An illegal word: one bit and the response (R115). -/
theorem illegalWord_eq (stimulus : Stimulus) (s : State) :
    illegalWord stimulus s =
      { s with
        fIllegal := true
        answers := s.answers ++ [⟨Stimulus.agent stimulus,
          ⟨.fault, { s with fIllegal := true }.faultWord, 0, []⟩⟩] } := rfl

/-- The next event, if one is presented. -/
theorem fetch_cases (s : State) :
    (s.inputs = [] ∧ fetch s = none) ∨
    ∃ e rest, s.inputs = e :: rest ∧ fetch s = some (e, { s with inputs := rest }) := by
  unfold fetch
  split
  · next h => exact .inl ⟨h, rfl⟩
  · next e rest h => exact .inr ⟨e, rest, h, rfl⟩

/-- What one step can do. -/
theorem step_cases {s t : State} (h : step s = .next t) :
    (s.inputs = [] ∧ t = s) ∨
    (∃ rest, s.inputs = .reset :: rest ∧ t = { s with inputs := rest }.resetBlock) ∨
    (∃ st rest i, s.inputs = .op st :: rest ∧ decode st = .ok i ∧
      exec i { s with inputs := rest } = .next t) ∨
    (∃ st rest e, s.inputs = .op st :: rest ∧ decode st = .error e ∧
      t = illegalWord st { s with inputs := rest }) := by
  unfold step at h
  rcases fetch_cases s with ⟨h0, h1⟩ | ⟨e, rest, h0, h1⟩
  · simp only [h1, Host.Outcome.next.injEq] at h
    exact .inl ⟨h0, h.symm⟩
  · cases e with
    | reset =>
      simp only [h1, Host.Outcome.next.injEq] at h
      exact .inr (.inl ⟨rest, h0, h.symm⟩)
    | op st =>
      cases hd : decode st with
      | ok i =>
        simp only [h1, hd] at h
        exact .inr (.inr (.inl ⟨st, rest, i, h0, hd, h⟩))
      | error e =>
        simp only [h1, hd, Host.Outcome.next.injEq] at h
        exact .inr (.inr (.inr ⟨st, rest, e, h0, hd, h.symm⟩))

/-! ### The encoder -/

/-- What the append step can do on a block that is not halted (R131). -/
theorem State.append_cases (s : State) (record : List Byte) :
    (s.encOpen = false ∧ s.append record = s.raiseFault .host .notOpen) ∨
    (s.encOpen = true ∧ 255 < s.wcur.toNat + record.length ∧
      s.append record = s.raiseOverflow .host) ∨
    (s.encOpen = true ∧ s.wcur.toNat + record.length ≤ 255 ∧
      s.append record =
        { s with
          eb := s.eb.writeBytes s.wcur.toNat record
          wcur := BitVec.ofNat 8 (s.wcur.toNat + record.length) }.answer .host
          (okResponse (BitVec.ofNat 32 (s.wcur.toNat + record.length)) 0 [])) := by
  unfold State.append
  split
  · next h =>
    split
    · next h' => exact .inr (.inl ⟨h, h', rfl⟩)
    · next h' => exact .inr (.inr ⟨h, Nat.le_of_not_lt h', rfl⟩)
  · next h => exact .inl ⟨by simpa using h, rfl⟩

/-- A byte of `EB` after a byte sequence is written to it. -/
theorem ebByte_writeBytes (s : State) (a : Nat) (bs : List Byte) (i : Nat) :
    { s with eb := s.eb.writeBytes a bs }.ebByte i =
      if a ≤ i ∧ i < a + bs.length then byteAt bs (i - a) else s.ebByte i := by
  unfold State.ebByte byteAt
  simp only [Memory.get_writeBytes]
  split
  · next h =>
    have h' : i - a < bs.length := by omega
    simp [List.getElem?_eq_getElem h']
  · rfl

/-- A byte of `EB` after one byte is written to it. -/
theorem ebByte_write (s : State) (a : Nat) (b : Byte) (i : Nat) :
    { s with eb := s.eb.write a b }.ebByte i = if i = a then b else s.ebByte i := by
  unfold State.ebByte
  simp only [Memory.get_write]
  split <;> rfl

/-! ### The decoder -/

/-- A slice is empty when its end is not after its start (R13). -/
theorem slice_of_le {byte : Nat → Byte} {i j : Nat} (h : j ≤ i) : slice byte i j = [] := by
  simp [slice, Nat.sub_eq_zero_of_le h]

@[simp] theorem slice_length (byte : Nat → Byte) (i j : Nat) : (slice byte i j).length = j - i := by
  simp [slice]

/-- A byte of a slice. -/
theorem slice_getElem? (byte : Nat → Byte) (i j k : Nat) (h : k < j - i) :
    (slice byte i j)[k]? = some (byte (i + k)) := by
  simp [slice, h]

/-- Slices of byte spaces that agree in the range are equal. -/
theorem slice_congr {byte byte' : Nat → Byte} {i j : Nat}
    (h : ∀ k, i ≤ k → k < j → byte k = byte' k) : slice byte i j = slice byte' i j := by
  unfold slice
  refine List.map_congr_left fun k hk => h _ (by omega) ?_
  have := List.mem_range.1 hk
  omega

/-- A slice is its first byte and the rest. -/
theorem slice_cons {byte : Nat → Byte} {i j : Nat} (h : i < j) :
    slice byte i j = byte i :: slice byte (i + 1) j := by
  apply List.ext_getElem?
  intro k
  rcases k with _ | k
  · rw [slice_getElem? _ _ _ _ (by omega)]; rfl
  · rw [List.getElem?_cons_succ]
    by_cases hk : k + 1 < j - i
    · rw [slice_getElem? _ _ _ _ hk, slice_getElem? _ _ _ _ (by omega),
        show i + (k + 1) = i + 1 + k by omega]
    · rw [List.getElem?_eq_none (by simp; omega), List.getElem?_eq_none (by simp; omega)]

/-- A slice of `byteAt` is a piece of the list. -/
theorem slice_byteAt (bytes : List Byte) (i j : Nat) (h : j ≤ bytes.length) :
    slice (byteAt bytes) i j = (bytes.drop i).take (j - i) := by
  apply List.ext_getElem?
  intro k
  by_cases hk : k < j - i
  · rw [slice_getElem? _ _ _ _ hk, List.getElem?_take, if_pos hk, List.getElem?_drop,
      List.getElem?_eq_getElem (by omega)]
    simp [byteAt, List.getElem?_eq_getElem (show i + k < bytes.length by omega)]
  · rw [List.getElem?_eq_none (by simp; omega), List.getElem?_eq_none (by simp; omega)]

/-- The XOR of a sequence, its first byte apart (R13). -/
@[simp] theorem xorBytes_nil : xorBytes [] = 0 := rfl
@[simp] theorem xorBytes_cons (b : Byte) (bs : List Byte) :
    xorBytes (b :: bs) = b ^^^ xorBytes bs := rfl

@[simp] theorem xorBytes_append (xs ys : List Byte) :
    xorBytes (xs ++ ys) = xorBytes xs ^^^ xorBytes ys := by
  induction xs with
  | nil => simp
  | cons x xs ih => simp [ih, BitVec.xor_assoc]

/-- The structural check with its constants written out (R152). -/
theorem structural_eq (byte : Nat → Byte) (n : Nat) :
    structural byte n =
      if n < 4 then some .truncated
      else if byte 0 ≠ 0x02 then some .badStx
      else if byte 1 = 0 then some .truncated
      else if n < (byte 1).toNat + 3 then some .truncated
      else if (byte 1).toNat + 3 < n then some .lengthMismatch
      else none := rfl

/-- What the structural check passes: a header byte, a length byte that is not 0 and counts the message
exactly (R152). -/
theorem structural_eq_none_iff (byte : Nat → Byte) (n : Nat) :
    structural byte n = none ↔ 4 ≤ n ∧ byte 0 = 0x02 ∧ byte 1 ≠ 0 ∧ n = (byte 1).toNat + 3 := by
  rw [structural_eq]
  split
  · simp; omega
  · split
    · next h => exact ⟨nofun, fun h' => absurd h'.2.1 h⟩
    · next h =>
      split
      · next h' => exact ⟨nofun, fun h'' => absurd h' h''.2.2.1⟩
      · next h' =>
        split
        · exact ⟨nofun, fun h'' => by omega⟩
        · split
          · exact ⟨nofun, fun h'' => by omega⟩
          · exact ⟨fun _ => ⟨by omega, Decidable.not_not.1 h, h', by omega⟩, fun _ => rfl⟩

/-- What the record reader answers for a record it reads (R158). -/
theorem tlv_eq_ok_iff (byte : Nat → Byte) (last o : Nat) (r : TlvRead) :
    tlv byte last o = .ok r ↔
      3 ≤ o ∧ o + 1 < last ∧ (byte (o + 1) = 1 ∨ byte (o + 1) = 2 ∨ byte (o + 1) = 4) ∧
      o + 2 + (byte (o + 1)).toNat ≤ last ∧
      r = ⟨⟨byte o, byte (o + 1), leVal (slice byte (o + 2) (o + 2 + (byte (o + 1)).toNat))⟩,
        o + 2 + (byte (o + 1)).toNat⟩ := by
  unfold tlv
  split
  · simp; omega
  · split
    · simp; omega
    · split
      · next h =>
        simp only [reduceCtorEq, false_iff]
        exact fun h' => h h'.2.2.1
      · next h =>
        split
        · simp; omega
        · have h' := Decidable.not_not.1 h
          simp only [Except.ok.injEq, h', true_and]
          constructor
          · rintro rfl
            exact ⟨by omega, by omega, by omega, rfl⟩
          · rintro ⟨_, _, _, rfl⟩
            rfl

/-- A record read is at least 3 bytes long, and ends at or before the end of the record area (R158). -/
theorem tlv_bounds {byte : Nat → Byte} {last o : Nat} {r : TlvRead} (h : tlv byte last o = .ok r) :
    o + 3 ≤ r.next ∧ r.next ≤ last := by
  obtain ⟨_, _, hs, hl, rfl⟩ := (tlv_eq_ok_iff _ _ _ _).1 h
  refine ⟨?_, hl⟩
  rcases hs with h | h | h <;> simp [h]

/-- The record reader reads only the record area. -/
theorem tlv_congr {byte byte' : Nat → Byte} {last : Nat} (o : Nat)
    (h : ∀ k, 3 ≤ k → k < last → byte k = byte' k) : tlv byte last o = tlv byte' last o := by
  unfold tlv
  split
  · rfl
  · split
    · rfl
    · rw [h o (by omega) (by omega), h (o + 1) (by omega) (by omega)]
      split
      · rfl
      · split
        · rfl
        · rw [slice_congr fun k h1 h2 => h k (by omega) (by omega)]

/-- The walk reads only the record area. -/
theorem walk_congr {byte byte' : Nat → Byte} {last : Nat}
    (h : ∀ k, 3 ≤ k → k < last → byte k = byte' k) (fuel o : Nat) :
    walk byte last fuel o = walk byte' last fuel o := by
  induction fuel generalizing o with
  | zero => rfl
  | succ fuel ih =>
    rw [walk, walk, tlv_congr o h]
    split
    · split
      · rfl
      · rw [ih]
    · rfl

/-- At the end of the record area the walk has found every record. -/
theorem walk_end (byte : Nat → Byte) (last fuel o : Nat) (h : last ≤ o) :
    walk byte last fuel o = .ok [] := by
  cases fuel
  · rfl
  · rw [walk, if_neg (by omega)]

/-- One turn of the walk. -/
theorem walk_succ (byte : Nat → Byte) (last fuel o : Nat) (h : o < last) :
    walk byte last (fuel + 1) o =
      match tlv byte last o with
      | .error c => .error c
      | .ok r =>
        match walk byte last fuel r.next with
        | .error c => .error c
        | .ok records => .ok (r.record :: records) := by
  rw [walk]
  exact if_pos h

/-- More fuel than the length of the record area changes nothing. -/
theorem walk_fuel (byte : Nat → Byte) (last : Nat) (fuel fuel' o : Nat) (h : last - o ≤ fuel)
    (h' : last - o ≤ fuel') : walk byte last fuel o = walk byte last fuel' o := by
  induction fuel generalizing fuel' o with
  | zero => rw [walk_end _ _ _ _ (by omega), walk_end _ _ _ _ (by omega)]
  | succ fuel ih =>
    by_cases hlt : o < last
    · obtain ⟨f, rfl⟩ : ∃ f, fuel' = f + 1 := ⟨fuel' - 1, by omega⟩
      rw [walk_succ _ _ _ _ hlt, walk_succ _ _ _ _ hlt]
      cases hr : tlv byte last o with
      | error c => rfl
      | ok r =>
        have := (tlv_bounds hr).1
        simp only []
        rw [ih f r.next (by omega) (by omega)]
    · rw [walk_end _ _ _ _ (by omega), walk_end _ _ _ _ (by omega)]

/-- What the decode of a message answers for one it accepts (R93, R150). -/
theorem decodeMessage_eq_ok_iff (byte : Nat → Byte) (n : Nat) (type : Byte) (records : List Record) :
    decodeMessage byte n = .ok (type, records) ↔
      structural byte n = none ∧ cksumOk byte = true ∧
        recordsOf byte (endOf byte) = .ok records ∧ type = byte 2 := by
  unfold decodeMessage
  split
  · next h => simp [h]
  · next h =>
    cases hc : cksumOk byte
    · simp [h]
    · cases hr : recordsOf byte (endOf byte)
      · simp [h]
      · simp [h, eq_comm, and_comm]

/-- The structural check reads only the first two bytes, and cannot tell lengths above 258 apart. -/
theorem structural_congr {byte byte' : Nat → Byte} {n n' : Nat}
    (h : ∀ k, k < min n 258 → byte k = byte' k) (hn : min n 259 = min n' 259) :
    structural byte n = structural byte' n' := by
  have hb := (byte' 1).isLt
  rw [structural_eq, structural_eq]
  by_cases hs : n < 4
  · rw [if_pos hs, if_pos (show n' < 4 by omega)]
  · rw [if_neg hs, if_neg (show ¬n' < 4 by omega), h 0 (by omega), h 1 (by omega)]
    split
    · rfl
    · split
      · rfl
      · by_cases hl : n < 259
        · rw [show n' = n by omega]
        · rw [if_neg (by omega), if_pos (by omega), if_neg (by omega), if_pos (by omega)]

/-- The decode of a message of at most 258 bytes reads only its bytes; of a longer one only its first two
bytes, and that it is longer. -/
theorem decodeMessage_congr {byte byte' : Nat → Byte} {n n' : Nat}
    (h : ∀ k, k < min n 258 → byte k = byte' k) (hn : min n 259 = min n' 259) :
    decodeMessage byte n = decodeMessage byte' n' := by
  have hb := (byte' 1).isLt
  unfold decodeMessage
  rw [structural_congr h hn]
  cases hq : structural byte' n' with
  | some c => rfl
  | none =>
    obtain ⟨h4, _, _, hlen⟩ := (structural_eq_none_iff _ _).1 hq
    have h1 := h 1 (by omega)
    have he : endOf byte = endOf byte' := by simp [endOf, h1]
    have hck : cksumOk byte = cksumOk byte' := by
      rw [cksumOk, cksumOk, he, h (endOf byte') (by unfold endOf; omega),
        slice_congr fun k _ hk => h k (by unfold endOf at hk; omega)]
    have hrec : recordsOf byte (endOf byte') = recordsOf byte' (endOf byte') :=
      walk_congr (fun k _ hk => h k (by unfold endOf at hk; omega)) _ _
    simp only [he, hck, hrec, h 2 (by omega)]

/-- A byte of `RX` after a message is loaded. -/
theorem rxByte_loadRx (s : State) (bytes : List Byte) (k : Nat) (h : k < min bytes.length 258) :
    (s.loadRx bytes).rxByte k = byteAt bytes k := by
  have hk : k < bytes.length := by omega
  have h2 : k < 258 := by omega
  simp [State.rxByte, State.loadRx, Memory.get_ofBytes, byteAt, h2,
    List.getElem?_eq_getElem hk]

theorem rxLen_loadRx (s : State) (bytes : List Byte) :
    (s.loadRx bytes).rxLen.toNat = min bytes.length 259 := by
  simp only [State.loadRx, Config.rxLenMax, BitVec.toNat_ofNat]
  omega

/-- The decode of the bytes just loaded is the decode of the message. -/
theorem decodeRx_loadRx (s : State) (bytes : List Byte) :
    (s.loadRx bytes).decodeRx = decodeMessage (byteAt bytes) bytes.length := by
  unfold State.decodeRx
  apply decodeMessage_congr
  · intro k hk
    rw [rxLen_loadRx] at hk
    exact rxByte_loadRx s bytes k (by omega)
  · rw [rxLen_loadRx]
    omega

/-- What the arrival of a message does (R150). -/
theorem State.receive_cases (s : State) (bytes : List Byte) :
    (∃ type records, decodeMessage (byteAt bytes) bytes.length = .ok (type, records) ∧
      s.receive bytes =
        { s.loadRx bytes with
          rxOk := true
          rxCause := none
          rxFtype := type
          rxOut := s.rxOut ++ [.frame type records]
          answers := s.answers ++ [⟨.transport, ok0⟩] }) ∨
    (∃ c, decodeMessage (byteAt bytes) bytes.length = .error c ∧
      s.receive bytes =
        { s.loadRx bytes with
          rxOk := false
          rxCause := some c
          rxFtype := 0
          rxOut := s.rxOut ++ [.dropped c]
          answers := s.answers ++ [⟨.transport, ok0⟩] }) := by
  unfold State.receive
  rw [decodeRx_loadRx]
  cases h : decodeMessage (byteAt bytes) bytes.length with
  | ok p =>
    obtain ⟨type, records⟩ := p
    exact .inl ⟨type, records, rfl, rfl⟩
  | error c => exact .inr ⟨c, rfl, rfl⟩

/-! ### The input state machine -/

/-- What a throttle key does (R190, R191, R200, R201). -/
theorem State.throttleKey_cases (s : State) (value : Chan) :
    (s.auto = true ∧ s.throttleKey value = s) ∨
    (s.auto = false ∧ s.throttleKey value = { s with throttle := value }) := by
  cases h : s.auto <;> simp [State.throttleKey, h]

/-- What the press of the aux2 toggle does (R195). -/
theorem State.pressAux2_cases (s : State) :
    (s.heldAux2 = true ∧ s.pressAux2 = s) ∨
    (s.heldAux2 = false ∧ s.auto = true ∧ s.pressAux2 = { s with heldAux2 := true }) ∨
    (s.heldAux2 = false ∧ s.auto = false ∧ s.aux2 = 2000 ∧
      s.pressAux2 = { s with heldAux2 := true, aux2 := 1000 }) ∨
    (s.heldAux2 = false ∧ s.auto = false ∧ s.aux2 ≠ 2000 ∧
      s.pressAux2 = { s with heldAux2 := true, aux2 := 2000 }) := by
  cases h : s.heldAux2 <;> cases h' : s.auto <;> by_cases h2 : s.aux2 = 2000#16 <;>
    simp [State.pressAux2, flipAux, h, h', h2]

/-- What the press of the auto toggle does (R196). -/
theorem State.pressAuto_cases (s : State) :
    (s.heldAuto = true ∧ s.pressAuto = s) ∨
    (s.heldAuto = false ∧ s.auto = true ∧ s.pressAuto =
      { s with heldAuto := true, auto := false, throttle := neutralChan, aux2 := 1000 }) ∨
    (s.heldAuto = false ∧ s.auto = false ∧ s.pressAuto =
      { s with
        heldAuto := true
        auto := true
        throttle := neutralMinus s.speedLimit
        aux2 := 2000 }) := by
  cases h : s.heldAuto <;> cases h' : s.auto <;> simp [State.pressAuto, h, h']

/-- What a new speed limit does (R212). -/
theorem State.setSpeedLimit_cases (s : State) (limit : BitVec 9) :
    (s.auto = true ∧ s.setSpeedLimit limit =
      { s with speedLimit := limit, throttle := neutralMinus limit }) ∨
    (s.auto = false ∧ s.setSpeedLimit limit = { s with speedLimit := limit }) := by
  cases h : s.auto <;> simp [State.setSpeedLimit, h]

/-- `1500 - S` and `1500 + S` as numbers. -/
theorem neutralMinus_toNat (limit : BitVec 9) : (neutralMinus limit).toNat = 1500 - limit.toNat := by
  simp only [neutralMinus, Config.neutral, BitVec.toNat_ofNat]
  omega

theorem neutralPlus_toNat (limit : BitVec 9) : (neutralPlus limit).toNat = 1500 + limit.toNat := by
  have := limit.isLt
  simp only [neutralPlus, Config.neutral, BitVec.toNat_ofNat]
  omega

/-! ### The scheduler -/

/-- What a tick does (R227). -/
theorem State.tick_cases (s : State) (nowMs : Word32) (txReady : Bool) :
    (s.connected = true ∧ s.paused = false ∧ txReady = true ∧
      s.tick nowMs txReady = s.pushTx (s.rcFrame nowMs)) ∨
    (¬(s.connected = true ∧ s.paused = false ∧ txReady = true) ∧ s.tick nowMs txReady = s) := by
  cases h : s.connected <;> cases h' : s.paused <;> cases txReady <;> simp [State.tick, h, h']

/-- What a pulse does (R226). -/
theorem State.pulse_cases (s : State) (nowMs : Word32) (txReady : Bool) :
    (s.run = false ∧ s.pulse nowMs txReady = s) ∨
    (s.run = true ∧ s.tickCnt.toNat = 49 ∧
      s.pulse nowMs txReady = { s with tickCnt := 0 }.tick nowMs txReady) ∨
    (s.run = true ∧ s.tickCnt.toNat ≠ 49 ∧
      s.pulse nowMs txReady = { s with tickCnt := s.tickCnt + 1 }) := by
  cases h : s.run
  · simp [State.pulse, h]
  · by_cases h' : s.tickCnt.toNat = 49 <;> simp [State.pulse, h, h']

end Sys2Proof.Machine
end

