-- ==== Sys2Proof/Laws/PerInstr.lean ====
section
/-! SUPPORT. Per-instruction families: every instruction's presented bits select its own row of the opcode table
(30_encoding.md R122). -/

namespace Sys2Proof.Laws.EncodesItsRow

open Sys2Proof.Machine

/-- The presented bits select a row of the table whose mnemonic is the instruction's own: the command word
a CMD row, the start of a wire frame a FRAME row, the start of a record a TLV row of its frame type. -/
def Selected (mnemonic : String) : Stimulus → Prop
  | .command w _ => ∃ r ∈ cmdTable, r.mnemonic = mnemonic ∧ rowSelects r w = true
  | .frame (header :: length :: type :: _) =>
    ∃ r ∈ frameTable, r.mnemonic = mnemonic ∧ rowSelects r (frameStart header length type) = true
  | .record type (id :: size :: _) =>
    ∃ r ∈ (if type == Config.ftRc then rcRecordTable else cfgRecordTable),
      r.mnemonic = mnemonic ∧ rowSelects r (recordStart id size) = true
  | _ => False

/-- The family's statement. -/
def Statement (i : Instr) : Prop := Selected (mnemonicOf i) (encode i)

/-- A command word selects a row when each of its three fields does. -/
theorem selects_of_fields (r : TableRow 48) (op a : Byte) (v : Word32)
    (h1 : op &&& opField r.mask = opField r.pattern)
    (h2 : a &&& aField r.mask = aField r.pattern)
    (h3 : v &&& vField r.mask = vField r.pattern) :
    rowSelects r (commandWord op a v) = true := by
  rw [rowSelects, beq_iff_eq, command_eq_iff_fields]
  simp [h1, h2, h3]

theorem beginFrame (type : Byte) : Statement (.beginFrame type) :=
  ⟨⟨"BEGIN", 0x100000000000, 0xFF00FFFFFFFF⟩, by decide, rfl,
    selects_of_fields _ _ _ _ (by decide)
      (by rw [show aField _ = 0 by decide, show aField _ = 0 by decide]; exact BitVec.and_zero)
      (by decide)⟩

theorem appi (id : Byte) (value : Word32) : Statement (.appi id value) :=
  ⟨⟨"APPI", 0x110000000000, 0xFF0000000000⟩, by decide, rfl,
    selects_of_fields _ _ _ _ (by decide)
      (by rw [show aField _ = 0 by decide, show aField _ = 0 by decide]; exact BitVec.and_zero)
      (by rw [show vField _ = 0 by decide, show vField _ = 0 by decide]; exact BitVec.and_zero)⟩

theorem appf (id : Byte) (pattern : Word32) : Statement (.appf id pattern) :=
  ⟨⟨"APPF", 0x120000000000, 0xFF0000000000⟩, by decide, rfl,
    selects_of_fields _ _ _ _ (by decide)
      (by rw [show aField _ = 0 by decide, show aField _ = 0 by decide]; exact BitVec.and_zero)
      (by rw [show vField _ = 0 by decide, show vField _ = 0 by decide]; exact BitVec.and_zero)⟩

theorem appt (value : Word32) : Statement (.appt value) :=
  ⟨⟨"APPT", 0x130000000000, 0xFFFF00000000⟩, by decide, rfl,
    selects_of_fields _ _ _ _ (by decide)
      (by decide)
      (by rw [show vField _ = 0 by decide, show vField _ = 0 by decide]; exact BitVec.and_zero)⟩

theorem sealFrame : Statement .sealFrame :=
  ⟨⟨"SEAL", 0x140000000000, 0xFFFFFFFFFFFF⟩, by decide, rfl,
    selects_of_fields _ _ _ _ (by decide)
      (by decide)
      (by decide)⟩

theorem dhdr : Statement .dhdr :=
  ⟨⟨"DHDR", 0x200000000000, 0xFFFFFFFFFFFF⟩, by decide, rfl,
    selects_of_fields _ _ _ _ (by decide)
      (by decide)
      (by decide)⟩

theorem vchk : Statement .vchk :=
  ⟨⟨"VCHK", 0x210000000000, 0xFFFFFFFFFFFF⟩, by decide, rfl,
    selects_of_fields _ _ _ _ (by decide)
      (by decide)
      (by decide)⟩

theorem dtlv (offset : Word32) : Statement (.dtlv offset) :=
  ⟨⟨"DTLV", 0x220000000000, 0xFFFF00000000⟩, by decide, rfl,
    selects_of_fields _ _ _ _ (by decide)
      (by decide)
      (by rw [show vField _ = 0 by decide, show vField _ = 0 by decide]; exact BitVec.and_zero)⟩

theorem rxmsg (bytes : List Byte) : Statement (.rxmsg bytes) :=
  ⟨⟨"RXMSG", 0x2F0000000000, 0xFFFF00000000⟩, by decide, rfl,
    selects_of_fields _ _ _ _ (by decide)
      (by decide)
      (by rw [show vField _ = 0 by decide, show vField _ = 0 by decide]; exact BitVec.and_zero)⟩

theorem brc (nowMs : Word32) : Statement (.brc nowMs) :=
  ⟨⟨"BRC", 0x300000000000, 0xFFFF00000000⟩, by decide, rfl,
    selects_of_fields _ _ _ _ (by decide)
      (by decide)
      (by rw [show vField _ = 0 by decide, show vField _ = 0 by decide]; exact BitVec.and_zero)⟩

theorem bcfg : Statement .bcfg :=
  ⟨⟨"BCFG", 0x310000000000, 0xFFFFFFFFFFFF⟩, by decide, rfl,
    selects_of_fields _ _ _ _ (by decide)
      (by decide)
      (by decide)⟩

theorem keydnThrUp : Statement .keydnThrUp :=
  ⟨⟨"KEYDN.THR_UP", 0x400000000000, 0xFFFFFFFFFFFF⟩, by decide, rfl,
    selects_of_fields _ _ _ _ (by decide)
      (by decide)
      (by decide)⟩

theorem keydnThrDown : Statement .keydnThrDown :=
  ⟨⟨"KEYDN.THR_DOWN", 0x400100000000, 0xFFFFFFFFFFFF⟩, by decide, rfl,
    selects_of_fields _ _ _ _ (by decide)
      (by decide)
      (by decide)⟩

theorem keydnRollLeft : Statement .keydnRollLeft :=
  ⟨⟨"KEYDN.ROLL_LEFT", 0x400200000000, 0xFFFFFFFFFFFF⟩, by decide, rfl,
    selects_of_fields _ _ _ _ (by decide)
      (by decide)
      (by decide)⟩

theorem keydnRollRight : Statement .keydnRollRight :=
  ⟨⟨"KEYDN.ROLL_RIGHT", 0x400300000000, 0xFFFFFFFFFFFF⟩, by decide, rfl,
    selects_of_fields _ _ _ _ (by decide)
      (by decide)
      (by decide)⟩

theorem keydnAux1 : Statement .keydnAux1 :=
  ⟨⟨"KEYDN.AUX1", 0x400400000000, 0xFFFFFFFFFFFF⟩, by decide, rfl,
    selects_of_fields _ _ _ _ (by decide)
      (by decide)
      (by decide)⟩

theorem keydnAux2 : Statement .keydnAux2 :=
  ⟨⟨"KEYDN.AUX2", 0x400500000000, 0xFFFFFFFFFFFF⟩, by decide, rfl,
    selects_of_fields _ _ _ _ (by decide)
      (by decide)
      (by decide)⟩

theorem keydnAuto : Statement .keydnAuto :=
  ⟨⟨"KEYDN.AUTO", 0x400600000000, 0xFFFFFFFFFFFF⟩, by decide, rfl,
    selects_of_fields _ _ _ _ (by decide)
      (by decide)
      (by decide)⟩

theorem keyupThrUp : Statement .keyupThrUp :=
  ⟨⟨"KEYUP.THR_UP", 0x410000000000, 0xFFFFFFFFFFFF⟩, by decide, rfl,
    selects_of_fields _ _ _ _ (by decide)
      (by decide)
      (by decide)⟩

theorem keyupThrDown : Statement .keyupThrDown :=
  ⟨⟨"KEYUP.THR_DOWN", 0x410100000000, 0xFFFFFFFFFFFF⟩, by decide, rfl,
    selects_of_fields _ _ _ _ (by decide)
      (by decide)
      (by decide)⟩

theorem keyupRollLeft : Statement .keyupRollLeft :=
  ⟨⟨"KEYUP.ROLL_LEFT", 0x410200000000, 0xFFFFFFFFFFFF⟩, by decide, rfl,
    selects_of_fields _ _ _ _ (by decide)
      (by decide)
      (by decide)⟩

theorem keyupRollRight : Statement .keyupRollRight :=
  ⟨⟨"KEYUP.ROLL_RIGHT", 0x410300000000, 0xFFFFFFFFFFFF⟩, by decide, rfl,
    selects_of_fields _ _ _ _ (by decide)
      (by decide)
      (by decide)⟩

theorem keyupAux1 : Statement .keyupAux1 :=
  ⟨⟨"KEYUP.AUX1", 0x410400000000, 0xFFFFFFFFFFFF⟩, by decide, rfl,
    selects_of_fields _ _ _ _ (by decide)
      (by decide)
      (by decide)⟩

theorem keyupAux2 : Statement .keyupAux2 :=
  ⟨⟨"KEYUP.AUX2", 0x410500000000, 0xFFFFFFFFFFFF⟩, by decide, rfl,
    selects_of_fields _ _ _ _ (by decide)
      (by decide)
      (by decide)⟩

theorem keyupAuto : Statement .keyupAuto :=
  ⟨⟨"KEYUP.AUTO", 0x410600000000, 0xFFFFFFFFFFFF⟩, by decide, rfl,
    selects_of_fields _ _ _ _ (by decide)
      (by decide)
      (by decide)⟩

theorem setspd (value : Word32) : Statement (.setspd value) :=
  ⟨⟨"SETSPD", 0x420000000000, 0xFFFF00000000⟩, by decide, rfl,
    selects_of_fields _ _ _ _ (by decide)
      (by decide)
      (by rw [show vField _ = 0 by decide, show vField _ = 0 by decide]; exact BitVec.and_zero)⟩

theorem tmrstart : Statement .tmrstart :=
  ⟨⟨"TMRSTART", 0x500000000000, 0xFFFFFFFFFFFF⟩, by decide, rfl,
    selects_of_fields _ _ _ _ (by decide)
      (by decide)
      (by decide)⟩

theorem tmrcancel : Statement .tmrcancel :=
  ⟨⟨"TMRCANCEL", 0x510000000000, 0xFFFFFFFFFFFF⟩, by decide, rfl,
    selects_of_fields _ _ _ _ (by decide)
      (by decide)
      (by decide)⟩

theorem pause : Statement .pause :=
  ⟨⟨"PAUSE", 0x520000000000, 0xFFFFFFFFFFFF⟩, by decide, rfl,
    selects_of_fields _ _ _ _ (by decide)
      (by decide)
      (by decide)⟩

theorem resume : Statement .resume :=
  ⟨⟨"RESUME", 0x530000000000, 0xFFFFFFFFFFFF⟩, by decide, rfl,
    selects_of_fields _ _ _ _ (by decide)
      (by decide)
      (by decide)⟩

theorem connect : Statement .connect :=
  ⟨⟨"CONNECT", 0x540000000000, 0xFFFFFFFFFFFF⟩, by decide, rfl,
    selects_of_fields _ _ _ _ (by decide)
      (by decide)
      (by decide)⟩

theorem disconnect : Statement .disconnect :=
  ⟨⟨"DISCONNECT", 0x550000000000, 0xFFFFFFFFFFFF⟩, by decide, rfl,
    selects_of_fields _ _ _ _ (by decide)
      (by decide)
      (by decide)⟩

theorem mspulse (nowMs : Word32) (txReady : Bool) : Statement (.mspulse nowMs txReady) :=
  ⟨⟨"MSPULSE", 0x560000000000, 0xFFFE00000000⟩, by decide, rfl,
    selects_of_fields _ _ _ _ (by decide)
      (by cases txReady <;> decide)
      (by rw [show vField _ = 0 by decide, show vField _ = 0 by decide]; exact BitVec.and_zero)⟩

theorem setp (pattern : Word32) : Statement (.setp pattern) :=
  ⟨⟨"SETP", 0x580000000000, 0xFFFF00000000⟩, by decide, rfl,
    selects_of_fields _ _ _ _ (by decide)
      (by decide)
      (by rw [show vField _ = 0 by decide, show vField _ = 0 by decide]; exact BitVec.and_zero)⟩

theorem seti (pattern : Word32) : Statement (.seti pattern) :=
  ⟨⟨"SETI", 0x590000000000, 0xFFFF00000000⟩, by decide, rfl,
    selects_of_fields _ _ _ _ (by decide)
      (by decide)
      (by rw [show vField _ = 0 by decide, show vField _ = 0 by decide]; exact BitVec.and_zero)⟩

theorem setd (pattern : Word32) : Statement (.setd pattern) :=
  ⟨⟨"SETD", 0x5A0000000000, 0xFFFF00000000⟩, by decide, rfl,
    selects_of_fields _ _ _ _ (by decide)
      (by decide)
      (by rw [show vField _ = 0 by decide, show vField _ = 0 by decide]; exact BitVec.and_zero)⟩

theorem sendcfg (txReady : Bool) : Statement (.sendcfg txReady) :=
  ⟨⟨"SENDCFG", 0x5B0000000000, 0xFFFEFFFFFFFF⟩, by decide, rfl,
    selects_of_fields _ _ _ _ (by decide)
      (by cases txReady <;> decide)
      (by decide)⟩

theorem rdreg (reg : Reg) : Statement (.rdreg reg) :=
  ⟨⟨"RDREG", 0x600000000000, 0xFF00FFFFFFFF⟩, by decide, rfl,
    selects_of_fields _ _ _ _ (by decide)
      (by cases reg <;> decide)
      (by decide)⟩

theorem rc (length : Byte) (tail : List Byte) : Statement (.rc length tail) :=
  ⟨⟨"RC", 0x010002, 0xFF00FF⟩, by decide, rfl, by revert length; decide⟩

theorem config (length : Byte) (tail : List Byte) : Statement (.config length tail) :=
  ⟨⟨"CONFIG", 0x020002, 0xFF00FF⟩, by decide, rfl, by revert length; decide⟩

theorem rcThrottle (size : Byte) (value : List Byte) : Statement (.rcThrottle size value) :=
  ⟨⟨"RC.THROTTLE", 0x0001, 0x00FF⟩, by decide, rfl, by revert size; decide⟩

theorem rcRoll (size : Byte) (value : List Byte) : Statement (.rcRoll size value) :=
  ⟨⟨"RC.ROLL", 0x0000, 0x00FF⟩, by decide, rfl, by revert size; decide⟩

theorem rcAux1 (size : Byte) (value : List Byte) : Statement (.rcAux1 size value) :=
  ⟨⟨"RC.AUX1", 0x0003, 0x00FF⟩, by decide, rfl, by revert size; decide⟩

theorem rcAux2 (size : Byte) (value : List Byte) : Statement (.rcAux2 size value) :=
  ⟨⟨"RC.AUX2", 0x0004, 0x00FF⟩, by decide, rfl, by revert size; decide⟩

theorem rcTimestamp (value : Word32) : Statement (.rcTimestamp value) :=
  ⟨⟨"RC.TIMESTAMP", 0x0464, 0xFFFF⟩, by decide, rfl, by decide⟩

theorem cfgP (pattern : Word32) : Statement (.cfgP pattern) :=
  ⟨⟨"CFG.P", 0x0401, 0xFFFF⟩, by decide, rfl, by decide⟩

theorem cfgI (pattern : Word32) : Statement (.cfgI pattern) :=
  ⟨⟨"CFG.I", 0x0402, 0xFFFF⟩, by decide, rfl, by decide⟩

theorem cfgD (pattern : Word32) : Statement (.cfgD pattern) :=
  ⟨⟨"CFG.D", 0x0403, 0xFFFF⟩, by decide, rfl, by decide⟩

end Sys2Proof.Laws.EncodesItsRow
end

