-- ==== Sys2Proof/Laws/Pseudo.lean ====
section
/-! SUPPORT. What one operation of a sequence can answer, and what the sequence DECODE (R121 (c)) leaves. -/

namespace Sys2Proof.Machine

/-- The response of an operation is the last one in the state it leaves (R15). -/
@[simp] theorem State.lastResponse_answer (s : State) (agent : Agent) (r : Response) :
    (s.answer agent r).lastResponse = some r := by
  simp [State.lastResponse, State.answer]

/-- An operation that leaves a state with its own response is issued with that response. -/
theorem issue_eq {i : Instr} {s u : State} {agent : Agent} {r : Response}
    (h : exec i s = .next (u.answer agent r)) : issue i s = some (u.answer agent r, r) := by
  simp [issue, h]

/-- What `DHDR` can answer (R154, R268). -/
theorem issue_dhdr_cases (s : State) :
    (s.halted = true ∧
      issue .dhdr s = some (s.respondFault .host, errorResponse .fault s.faultWord)) ∨
    (s.halted = false ∧
      ∃ c, issue .dhdr s =
          some (s.raiseDecodeError .host c, errorResponse .decodeError (c.code.setWidth 32)) ∧
        (c = .truncated ∧ s.rxLen.toNat < 3 ∨
          c = .badStx ∧ 3 ≤ s.rxLen.toNat ∧ s.rxByte 0 ≠ 0x02 ∨
          c = .truncated ∧ 3 ≤ s.rxLen.toNat ∧ s.rxByte 0 = 0x02 ∧ s.rxByte 1 = 0)) ∨
    (s.halted = false ∧ 3 ≤ s.rxLen.toNat ∧ s.rxByte 0 = 0x02 ∧ s.rxByte 1 ≠ 0 ∧
      issue .dhdr s =
        some (s.answer .host (okResponse
            ((s.rxByte 2).setWidth 32 ||| (s.rxByte 1).setWidth 32 <<< 8) 0 []),
          okResponse ((s.rxByte 2).setWidth 32 ||| (s.rxByte 1).setWidth 32 <<< 8) 0 [])) := by
  cases hh : s.halted
  · by_cases hn : s.rxLen.toNat < 3
    · refine .inr (.inl ⟨rfl, .truncated, issue_eq ?_, .inl ⟨rfl, hn⟩⟩)
      simp [exec, execDhdr, hh, hn, State.raiseDecodeError]
    · have h3 : 3 ≤ s.rxLen.toNat := Nat.le_of_not_lt hn
      by_cases h0 : s.rxByte 0 = 0x02
      · by_cases h1 : s.rxByte 1 = 0
        · refine .inr (.inl ⟨rfl, .truncated, issue_eq ?_, .inr (.inr ⟨rfl, h3, h0, h1⟩)⟩)
          simp [exec, execDhdr, hh, hn, h0, h1, State.raiseDecodeError]
        · refine .inr (.inr ⟨rfl, h3, h0, h1, issue_eq ?_⟩)
          rw [exec, execDhdr, unlessHalted_running hh, if_neg hn, if_neg (not_not.2 h0), if_neg h1]
      · refine .inr (.inl ⟨rfl, .badStx, issue_eq ?_, .inr (.inl ⟨rfl, h3, h0⟩)⟩)
        rw [exec, execDhdr, unlessHalted_running hh, if_neg hn, if_pos h0, State.raiseDecodeError]
  · refine .inl ⟨rfl, issue_eq ?_⟩
    simp [exec, execDhdr, hh, State.respondFault]

/-- What `VCHK` can answer (R156, R268). -/
theorem issue_vchk_cases (s : State) :
    (s.halted = true ∧
      issue .vchk s = some (s.respondFault .host, errorResponse .fault s.faultWord)) ∨
    (s.halted = false ∧
      issue .vchk s = some (s.answer .host (okResponse (if s.checksumValid then 1 else 0) 0 []),
        okResponse (if s.checksumValid then 1 else 0) 0 [])) := by
  cases hh : s.halted
  · refine .inr ⟨rfl, issue_eq ?_⟩
    simp [exec, execVchk, hh]
  · refine .inl ⟨rfl, issue_eq ?_⟩
    simp [exec, execVchk, hh, State.respondFault]

/-- What `DTLV` can answer (R160, R268). -/
theorem issue_dtlv_cases (s : State) (offset : Word32) :
    (s.halted = true ∧
      issue (.dtlv offset) s = some (s.respondFault .host, errorResponse .fault s.faultWord)) ∨
    (s.halted = false ∧ ∃ c, s.readRecord offset.toNat = .error c ∧
      issue (.dtlv offset) s =
        some (s.raiseDecodeError .host c, errorResponse .decodeError (c.code.setWidth 32))) ∨
    (s.halted = false ∧ ∃ r, s.readRecord offset.toNat = .ok r ∧
      issue (.dtlv offset) s = some (s.answer .host (okResponse r.record.value (tlvWord r) []),
        okResponse r.record.value (tlvWord r) [])) := by
  cases hh : s.halted
  · cases hr : s.readRecord offset.toNat with
    | error c =>
      refine .inr (.inl ⟨rfl, c, rfl, issue_eq ?_⟩)
      simp [exec, execDtlv, hh, hr, State.raiseDecodeError]
    | ok r =>
      refine .inr (.inr ⟨rfl, r, rfl, issue_eq ?_⟩)
      simp [exec, execDtlv, hh, hr]
  · refine .inl ⟨rfl, issue_eq ?_⟩
    simp [exec, execDtlv, hh, State.respondFault]

/-- `DTLV` leaves the state as it was, but for its response (R160). -/
theorem issue_dtlv_frame (s : State) (offset : Word32) :
    ∃ r, issue (.dtlv offset) s = some (s.answer .host r, r) := by
  rcases issue_dtlv_cases s offset with ⟨_, h⟩ | ⟨_, _, _, h⟩ | ⟨_, _, _, h⟩ <;> exact ⟨_, h⟩

/-- At the checksum index the loop of `DECODE` ends (R121 (c)). -/
@[simp] theorem decodeLoop_end (last fuel : Nat) (s : State) :
    decodeLoop last fuel last s = (s, []) := by
  cases fuel
  · rfl
  · simp [decodeLoop]

/-- One turn of the loop of `DECODE`: the response, and the rest from the next offset if it is `OK`. -/
theorem decodeLoop_succ {last o : Nat} {s : State} {r : Response} (fuel : Nat) (ho : o ≠ last)
    (h : issue (.dtlv (BitVec.ofNat 32 o)) s = some (s.answer .host r, r)) :
    decodeLoop last (fuel + 1) o s =
      if r.st = .ok then
        ((decodeLoop last fuel (r.d1 >>> 16).toNat (s.answer .host r)).1,
          r :: (decodeLoop last fuel (r.d1 >>> 16).toNat (s.answer .host r)).2)
      else (s.answer .host r, [r]) := by
  rw [decodeLoop, if_neg ho, h]

/-- The loop of `DECODE` leaves the state as it was, but for its responses (R160). -/
theorem decodeLoop_frame (last fuel o : Nat) (s : State) :
    (decodeLoop last fuel o s).1 =
      { s with answers := s.answers ++ (decodeLoop last fuel o s).2.map (Answer.mk .host) } := by
  induction fuel generalizing o s with
  | zero => simp [decodeLoop]
  | succ fuel ih =>
    by_cases ho : o = last
    · simp [ho]
    · obtain ⟨r, hr⟩ := issue_dtlv_frame s (BitVec.ofNat 32 o)
      rw [decodeLoop_succ fuel ho hr]
      split
      · rw [ih]
        simp [State.answer]
      · simp [State.answer]

end Sys2Proof.Machine
end

