-- ==== Sys2Proof/Tests/Slice0.lean ====
section
/-! SUPPORT. The model's own tests: ill-formed terms, every constructor's word, one-step results from
spec/95_test_vectors.md (V-… and section numbers below are that file's), and a witness for the hypotheses of
every statement. -/

namespace Sys2Proof.Tests

open Sys2Proof.Machine

/-! ### Helpers -/

/-- What an instruction leaves, through one view of the next state. -/
def after {α : Type} (i : Instr) (s : State) (view : State → α) : Option α :=
  match exec i s with
  | .next t => some (view t)
  | .fault _ => none
  | .refused _ => none

/-- What one step leaves, through one view of the next state. -/
def afterStep {α : Type} (s : State) (view : State → α) : Option α :=
  match step s with
  | .next t => some (view t)
  | .fault _ => none
  | .refused _ => none

/-- Status, `d0` and `d1` of the last response. -/
def reply (s : State) : Option (Status × Word32 × Word32) :=
  s.lastResponse.map fun r => (r.st, r.d0, r.d1)

/-- The frame of the last response. -/
def replyFrame (s : State) : Option (List Byte) := s.lastResponse.map Response.frame

/-- Reset with the speed limit set. -/
def limited (limit : BitVec 9) : State := { State.reset with speedLimit := limit }

/-- AUTO with the limit 200, the auto key released (section 2.4). -/
def inAuto : State :=
  { State.reset with speedLimit := 200, auto := true, throttle := 1300, aux2 := 2000 }

/-- A builder of a type with a record area. -/
def builder (type : Byte) (records : List Byte) : State :=
  { State.reset with
    eb := Memory.ofBytes 0 ([0x02, 0x00, type] ++ records)
    wcur := BitVec.ofNat 8 (3 + records.length)
    encOpen := true }

/-- An open builder whose write cursor stands at `n`, whatever its bytes. -/
def builderAt (n : Byte) : State := { State.reset with encOpen := true, wcur := n }

/-- A message in `RX`, not yet reported. -/
def loaded (bytes : List Byte) : State := State.reset.loadRx bytes

/-- The frame `02 05 01 07 02 00 01 05` of section 2.2: one record `(7, 2, 256)`. -/
def oneRecord : List Byte := [0x02, 0x05, 0x01, 0x07, 0x02, 0x00, 0x01, 0x05]

/-- The message of section 2.2 with a trailing id byte after its one record. -/
def trailingId : List Byte := [0x02, 0x05, 0x01, 0x07, 0x01, 0x05, 0x08, 0x0A]

/-- The running, connected timer at a count. -/
def running (count : BitVec 6) : State :=
  { State.reset with run := true, connected := true, tickCnt := count }

/-- A halted block (`F_ILLEGAL`). -/
def stopped : State := { State.reset with fIllegal := true }

/-! ### Well-formedness refuses -/

theorem test_wf_rejects_missing_value_byte : Instr.wf (.rcThrottle 2 [0xDC]) = false := by decide
theorem test_wf_rejects_extra_value_byte : Instr.wf (.rcRoll 1 [0xDC, 0x05]) = false := by decide
theorem test_wf_rejects_value_of_size_zero : Instr.wf (.rcAux1 0 [0x00]) = false := by decide
theorem test_wf_rejects_record_no_frame_holds :
    Instr.wf (.rcAux2 253 (List.replicate 253 0)) = false := by
  simp only [Instr.wf, recordFits, List.length_replicate]
  decide
theorem test_wf_rejects_message_beyond_v :
    Instr.wf (.rxmsg (List.replicate (2 ^ 32) 0)) = false := by
  simp only [Instr.wf, List.length_replicate, decide_eq_false_iff_not]
  omega
theorem test_wf_accepts_largest_record :
    Instr.wf (.rcAux2 252 (List.replicate 252 0)) = true := by
  simp only [Instr.wf, recordFits, List.length_replicate]
  decide

/-! ### Every constructor from a word written out from its encoding (R110 to R112, R91, R94) -/

theorem test_decode_encoder :
    decode (.command 0x10FF00000000 []) = .ok (.beginFrame 0xFF) ∧
    decode (.command 0x110700010000 []) = .ok (.appi 7 65536) ∧
    decode (.command 0x120980000000 []) = .ok (.appf 9 0x80000000) ∧
    decode (.command 0x130000000005 []) = .ok (.appt 5) ∧
    decode (.command 0x140000000000 []) = .ok .sealFrame := by decide

theorem test_decode_decoder :
    decode (.command 0x200000000000 []) = .ok .dhdr ∧
    decode (.command 0x210000000000 []) = .ok .vchk ∧
    decode (.command 0x2200FFFFFFFF []) = .ok (.dtlv 0xFFFFFFFF) ∧
    decode (.command 0x2F0000000003 [0x02, 0x01, 0x01]) = .ok (.rxmsg [0x02, 0x01, 0x01]) ∧
    decode (.command 0x3000FFFFFFFF []) = .ok (.brc 0xFFFFFFFF) ∧
    decode (.command 0x310000000000 []) = .ok .bcfg := by decide

theorem test_decode_key_presses :
    decode (.command 0x400000000000 []) = .ok .keydnThrUp ∧
    decode (.command 0x400100000000 []) = .ok .keydnThrDown ∧
    decode (.command 0x400200000000 []) = .ok .keydnRollLeft ∧
    decode (.command 0x400300000000 []) = .ok .keydnRollRight ∧
    decode (.command 0x400400000000 []) = .ok .keydnAux1 ∧
    decode (.command 0x400500000000 []) = .ok .keydnAux2 ∧
    decode (.command 0x400600000000 []) = .ok .keydnAuto := by decide

theorem test_decode_key_releases :
    decode (.command 0x410000000000 []) = .ok .keyupThrUp ∧
    decode (.command 0x410100000000 []) = .ok .keyupThrDown ∧
    decode (.command 0x410200000000 []) = .ok .keyupRollLeft ∧
    decode (.command 0x410300000000 []) = .ok .keyupRollRight ∧
    decode (.command 0x410400000000 []) = .ok .keyupAux1 ∧
    decode (.command 0x410500000000 []) = .ok .keyupAux2 ∧
    decode (.command 0x410600000000 []) = .ok .keyupAuto ∧
    decode (.command 0x4200000001F4 []) = .ok (.setspd 500) := by decide

theorem test_decode_scheduler :
    decode (.command 0x500000000000 []) = .ok .tmrstart ∧
    decode (.command 0x510000000000 []) = .ok .tmrcancel ∧
    decode (.command 0x520000000000 []) = .ok .pause ∧
    decode (.command 0x530000000000 []) = .ok .resume ∧
    decode (.command 0x540000000000 []) = .ok .connect ∧
    decode (.command 0x550000000000 []) = .ok .disconnect ∧
    decode (.command 0x5601FFFFFFFF []) = .ok (.mspulse 0xFFFFFFFF true) ∧
    decode (.command 0x560000000001 []) = .ok (.mspulse 1 false) := by decide

theorem test_decode_config_and_registers :
    decode (.command 0x58003F800000 []) = .ok (.setp 0x3F800000) ∧
    decode (.command 0x59003F000000 []) = .ok (.seti 0x3F000000) ∧
    decode (.command 0x5A003E800000 []) = .ok (.setd 0x3E800000) ∧
    decode (.command 0x5B0100000000 []) = .ok (.sendcfg true) ∧
    decode (.command 0x5B0000000000 []) = .ok (.sendcfg false) ∧
    decode (.command 0x600A00000000 []) = .ok (.rdreg .cfgD) ∧
    decode (.command 0x603000000000 []) = .ok (.rdreg .fault) := by decide

theorem test_decode_wire_items :
    decode (.frame [0x02, 0x01, 0x01, 0x01]) = .ok (.rc 1 [0x01]) ∧
    decode (.frame [0x02, 0x13, 0x02]) = .ok (.config 0x13 []) ∧
    decode (.record 1 [0x01, 0x02, 0xDC, 0x05]) = .ok (.rcThrottle 2 [0xDC, 0x05]) ∧
    decode (.record 1 [0x00, 0x02, 0xDC, 0x05]) = .ok (.rcRoll 2 [0xDC, 0x05]) ∧
    decode (.record 1 [0x03, 0x02, 0xE8, 0x03]) = .ok (.rcAux1 2 [0xE8, 0x03]) ∧
    decode (.record 1 [0x04, 0x02, 0xE8, 0x03]) = .ok (.rcAux2 2 [0xE8, 0x03]) ∧
    decode (.record 1 [0x64, 0x04, 0x78, 0x56, 0x34, 0x12]) = .ok (.rcTimestamp 0x12345678) ∧
    decode (.record 2 [0x01, 0x04, 0x00, 0x00, 0x80, 0x3F]) = .ok (.cfgP 0x3F800000) ∧
    decode (.record 2 [0x02, 0x04, 0x00, 0x00, 0x00, 0x3F]) = .ok (.cfgI 0x3F000000) ∧
    decode (.record 2 [0x03, 0x04, 0x00, 0x00, 0x80, 0x3E]) = .ok (.cfgD 0x3E800000) := by decide

/-- The illegal words of section 2.6, each by the condition of R115 that the file names beside it. -/
theorem test_decode_rejects_illegal_words :
    decode (.command 0x000000000000 []) = .error .unassignedOp ∧
    decode (.command 0x570000000000 []) = .error .unassignedOp ∧
    decode (.command 0x100100000001 []) = .error .unusedFieldNotZero ∧
    decode (.command 0x130100000000 []) = .error .unusedFieldNotZero ∧
    decode (.command 0x400000000001 []) = .error .unusedFieldNotZero ∧
    decode (.command 0x400700000000 []) = .error .keyCode ∧
    decode (.command 0x41FF00000000 []) = .error .keyCode ∧
    decode (.command 0x560200000000 []) = .error .txReadyBits ∧
    decode (.command 0x5B0100000001 []) = .error .unusedFieldNotZero ∧
    decode (.command 0x600700000000 []) = .error .unassignedRegister ∧
    decode (.command 0x2F0000000003 [0x02, 0x01]) = .error .messageCount := by decide

/-! ### Words of the opcode table, and what the step runs -/

theorem test_table_words :
    decodeTableWord 48 0x400300000000 = some .keydnRollRight ∧
    decodeTableWord 24 0x010002 = some (.rc 0 []) ∧
    decodeTableWord 24 0x020002 = some (.config 0 []) ∧
    decodeTableWord 16 0x0001 = some (.rcThrottle 0 []) ∧
    decodeTableWord 16 0x0464 = some (.rcTimestamp 0) ∧
    decodeTableWord 16 0x0401 = some (.cfgP 0) ∧
    decodeTableWord 16 0x0403 = some (.cfgD 0) := by decide

theorem test_fetch_word_runs :
    afterStep (State.reset.withFetchWord 48 0x400400000000) (fun t => (t.aux1, t.inputs)) =
      some (2000, []) := by decide

theorem test_step_waits : step State.reset = .next State.reset := rfl

/-! ### One step per instruction (section 2.1: encoder) -/

theorem test_begin :
    after (.beginFrame 0x7F) State.reset (fun t => (t.encStatWord, t.ebByte 0, t.ebByte 2)) =
      some (0x00000301, 0x02, 0x7F) := by decide
theorem test_begin_reentrant :
    after (.beginFrame 2) (builder 1 [0x01, 0x02, 0xDC, 0x05])
      (fun t => (reply t, t.faultWord, t.encStatWord)) =
      some (some (.fault, 1, 0), 1, 0x00000701) := by decide
theorem test_appi_size_two :
    after (.appi 7 256) (builder 1 []) (fun t => (reply t, slice t.ebByte 3 7)) =
      some (some (.ok, 7, 0), [0x07, 0x02, 0x00, 0x01]) := by decide
theorem test_appi_overflow :
    after (.appi 7 256) (builderAt 252) (fun t => (reply t, t.encStatWord)) =
      some (some (.encodeOverflow, 0, 0), 0) := by decide
theorem test_appf :
    after (.appf 9 0x80000000) (builder 2 []) (fun t => slice t.ebByte 3 9) =
      some [0x09, 0x04, 0x00, 0x00, 0x00, 0x80] := by decide
theorem test_appf_not_open :
    after (.appf 1 0) State.reset (fun t => (reply t, t.faultWord)) =
      some (some (.fault, 2, 0), 2) := by decide
theorem test_appt :
    after (.appt 5) (builder 1 []) (fun t => slice t.ebByte 3 9) =
      some [0x64, 0x04, 0x05, 0x00, 0x00, 0x00] := by decide
theorem test_appt_fits_exactly :
    after (.appt 0) (builderAt 249) reply = some (some (.ok, 255, 0)) := by decide
theorem test_seal :
    after .sealFrame (builder 1 [0x07, 0x02, 0x00, 0x01])
      (fun t => (reply t, replyFrame t, t.encStatWord)) =
      some (some (.ok, 8, 0), some oneRecord, 0) := by decide
theorem test_seal_empty_frame :
    after .sealFrame (builder 0x7F []) replyFrame = some (some [0x02, 0x01, 0x7F, 0x7F]) := by
  decide

/-! ### Section 2.2: decoder -/

theorem test_rxmsg_frame :
    after (.rxmsg oneRecord) State.reset (fun t => (t.rxOut, t.rxStatWord, t.rxLen)) =
      some ([.frame 1 [⟨7, 2, 256⟩]], 0x00010003, 8) := by decide
theorem test_rxmsg_drops_overrun :
    after (.rxmsg [0x02, 0x07, 0x01, 0x07, 0x01, 0x05, 0x08, 0x02, 0x01, 0x09]) State.reset
      (fun t => (t.rxOut, t.rxStatWord)) = some ([.dropped .tlvOverrun], 0x00000801) := by decide
theorem test_dhdr :
    after .dhdr (loaded [0x02, 0x02, 0x01, 0x01]) reply = some (some (.ok, 0x0201, 0)) := by decide
theorem test_dhdr_length_zero :
    after .dhdr (loaded [0x02, 0x00, 0x01, 0x01]) reply = some (some (.decodeError, 1, 0)) := by
  decide
theorem test_vchk :
    after .vchk (loaded [0x02, 0x02, 0x01, 0x07, 0x06]) reply = some (some (.ok, 1, 0)) := by decide
theorem test_vchk_bad :
    after .vchk (loaded [0x02, 0x01, 0x01, 0x00]) reply = some (some (.ok, 0, 0)) := by decide
theorem test_dtlv :
    after (.dtlv 3) (loaded oneRecord) reply = some (some (.ok, 256, 0x00070207)) := by decide
theorem test_dtlv_at_checksum :
    after (.dtlv 7) (loaded oneRecord) reply = some (some (.decodeError, 5, 0)) := by decide

/-! ### Section 2.3: packet builders -/

theorem test_brc :
    after (.brc 0) State.reset replyFrame =
      some (some [0x02, 0x17, 0x01, 0x01, 0x02, 0xDC, 0x05, 0x00, 0x02, 0xDC, 0x05, 0x03, 0x02, 0xE8,
        0x03, 0x04, 0x02, 0xE8, 0x03, 0x64, 0x04, 0x00, 0x00, 0x00, 0x00, 0x67]) := by decide
theorem test_bcfg :
    after .bcfg { State.reset with cfgP := 0x3FC00000, cfgI := 0xC0000000, cfgD := 0x7FC00001 }
      replyFrame =
      some (some [0x02, 0x13, 0x02, 0x01, 0x04, 0x00, 0x00, 0xC0, 0x3F, 0x02, 0x04, 0x00, 0x00, 0x00,
        0xC0, 0x03, 0x04, 0x01, 0x00, 0xC0, 0x7F, 0x87]) := by decide

/-! ### Section 2.4: input state machine -/

theorem test_keydn_thr_up : after .keydnThrUp (limited 200) State.throttle = some 1300 := by decide
theorem test_keydn_thr_up_in_auto : after .keydnThrUp inAuto State.throttle = some 1300 := by decide
theorem test_keydn_thr_down : after .keydnThrDown (limited 200) State.throttle = some 1700 := by
  decide
theorem test_keydn_thr_down_in_auto :
    after .keydnThrDown inAuto (fun t => (t.throttle, reply t)) =
      some (1300, some (.ok, 2, 0)) := by decide
theorem test_keydn_roll_left : after .keydnRollLeft (limited 200) State.roll = some 1700 := by decide
theorem test_keydn_roll_left_in_auto : after .keydnRollLeft inAuto State.roll = some 1700 := by decide
theorem test_keydn_roll_right : after .keydnRollRight (limited 500) State.roll = some 1000 := by
  decide
theorem test_keydn_aux1 : after .keydnAux1 State.reset State.aux1 = some 2000 := by decide
theorem test_keydn_aux2 :
    after .keydnAux2 State.reset (fun t => (t.aux2, t.mode, t.ismFlagsWord)) =
      some (2000, 1, 4) := by decide
theorem test_keydn_aux2_in_auto :
    after .keydnAux2 inAuto (fun t => (t.aux2, t.mode, t.ismFlagsWord)) =
      some (2000, 2, 5) := by decide
theorem test_keydn_auto :
    after .keydnAuto (limited 200) (fun t => (t.throttle, t.aux2, t.mode, t.ismFlagsWord)) =
      some (1300, 2000, 2, 3) := by decide
theorem test_keydn_auto_leaves :
    after .keydnAuto inAuto (fun t => (t.throttle, t.aux2, t.mode, t.ismFlagsWord)) =
      some (1500, 1000, 0, 2) := by decide
theorem test_keyup_thr_up :
    after .keyupThrUp { limited 200 with throttle := 1700 } State.throttle = some 1500 := by decide
theorem test_keyup_thr_up_in_auto : after .keyupThrUp inAuto State.throttle = some 1300 := by decide
theorem test_keyup_thr_down :
    after .keyupThrDown { limited 200 with throttle := 1300 } State.throttle = some 1500 := by decide
theorem test_keyup_thr_down_in_auto : after .keyupThrDown inAuto State.throttle = some 1300 := by
  decide
theorem test_keyup_roll_left :
    after .keyupRollLeft { inAuto with roll := 1700 } State.roll = some 1500 := by decide
theorem test_keyup_roll_right :
    after .keyupRollRight { inAuto with roll := 1300 } State.roll = some 1500 := by decide
theorem test_keyup_aux1 :
    after .keyupAux1 { inAuto with aux1 := 2000 } State.aux1 = some 1000 := by decide
theorem test_keyup_aux2 :
    after .keyupAux2 { State.reset with aux2 := 2000, heldAux2 := true }
      (fun t => (t.aux2, t.ismFlagsWord)) = some (2000, 0) := by decide
theorem test_keyup_auto :
    after .keyupAuto { inAuto with heldAuto := true } (fun t => (t.throttle, t.ismFlagsWord)) =
      some (1300, 1) := by decide
theorem test_setspd_in_auto :
    after (.setspd 350) inAuto (fun t => (t.throttle, t.speedLimit)) = some (1150, 350) := by decide
theorem test_setspd_range :
    after (.setspd 501) inAuto (fun t => (reply t, t.speedLimit)) =
      some (some (.rangeError, 0, 0), 200) := by decide

/-! ### Section 2.5: scheduler and config path -/

theorem test_tmrstart : after .tmrstart State.reset State.schedWord = some 1 := by decide
theorem test_tmrstart_running : after .tmrstart (running 25) State.tickCnt = some 25 := by decide
theorem test_tmrcancel :
    after .tmrcancel (running 49) (fun t => (t.schedWord, t.tickCnt)) = some (4, 0) := by decide
theorem test_pause : after .pause (running 0) State.schedWord = some 7 := by decide
theorem test_resume :
    after .resume { running 0 with paused := true } State.schedWord = some 5 := by decide
theorem test_connect : after .connect State.reset State.schedWord = some 4 := by decide
theorem test_disconnect : after .disconnect (running 0) State.schedWord = some 1 := by decide
theorem test_mspulse_fires :
    after (.mspulse 100 true) (running 49) (fun t => (t.txOut, t.tickCnt)) =
      some ([[0x02, 0x17, 0x01, 0x01, 0x02, 0xDC, 0x05, 0x00, 0x02, 0xDC, 0x05, 0x03, 0x02, 0xE8, 0x03,
        0x04, 0x02, 0xE8, 0x03, 0x64, 0x04, 0x64, 0x00, 0x00, 0x00, 0x03]], 0) := by decide
theorem test_mspulse_not_ready :
    after (.mspulse 300 false) (running 49) (fun t => (t.txOut, t.tickCnt)) = some ([], 0) := by
  decide
theorem test_setp : after (.setp 0x3F800000) State.reset State.cfgP = some 0x3F800000 := by decide
theorem test_seti : after (.seti 0x3F000000) State.reset State.cfgI = some 0x3F000000 := by decide
theorem test_setd : after (.setd 0x3E800000) State.reset State.cfgD = some 0x3E800000 := by decide
theorem test_sendcfg :
    after (.sendcfg true) { running 0 with cfgP := 0x3F800000, paused := true } State.txOut =
      some [[0x02, 0x13, 0x02, 0x01, 0x04, 0x00, 0x00, 0x80, 0x3F, 0x02, 0x04, 0x00, 0x00, 0x00, 0x00,
        0x03, 0x04, 0x00, 0x00, 0x00, 0x00, 0xB9]] := by decide
theorem test_sendcfg_disconnected :
    after (.sendcfg true) State.reset (fun t => (reply t, t.txOut)) =
      some (some (.transportUnavailable, 0, 0), []) := by decide

/-! ### Section 2.6: register read, illegal words, halted state -/

theorem test_rdreg : after (.rdreg .throttle) State.reset reply = some (some (.ok, 1500, 0)) := by
  decide
theorem test_rdreg_halted : after (.rdreg .fault) stopped reply = some (some (.ok, 4, 0)) := by decide
theorem test_halted_key :
    after .keydnAux1 stopped (fun t => (reply t, t.aux1)) =
      some (some (.fault, 4, 0), 1000) := by decide
theorem test_illegal_word :
    afterStep (State.reset.present (.command 0 [])) (fun t => (reply t, t.faultWord)) =
      some (some (.fault, 4, 0), 4) := by decide

/-! ### The pseudo-operation DECODE (R121 (c), section 2.2) -/

/-- `DHDR` gives 0x0501, `VCHK` 1, `DTLV 3` the record `(7, 2, 256)` with next 7, the end of the walk. -/
theorem test_decode_reads_every_record :
    (decodeMessageOps (loaded oneRecord)).2.map (fun r => (r.st, r.d0, r.d1)) =
      [(.ok, 0x0501, 0), (.ok, 1, 0), (.ok, 256, 0x00070207)] := by decide
/-- The same message with checksum 04: `VCHK` gives 0 (log 21). -/
theorem test_decode_stops_at_a_wrong_checksum :
    (decodeMessageOps (loaded [0x02, 0x05, 0x01, 0x07, 0x02, 0x00, 0x01, 0x04])).2.map
        (fun r => (r.st, r.d0)) = [(.ok, 0x0501), (.ok, 0)] := by decide
/-- The second record has no size byte: `DTLV 6` is `TLV_SIZE_UNREADABLE`. -/
theorem test_decode_stops_at_an_unreadable_record :
    (decodeMessageOps (loaded trailingId)).2.map (fun r => (r.st, r.d0)) =
      [(.ok, 0x0501), (.ok, 1), (.ok, 5), (.decodeError, 6)] := by decide
/-- Before any message `DHDR` reports `TRUNCATED`. -/
theorem test_decode_stops_at_a_bad_header :
    (decodeMessageOps State.reset).2.map (fun r => (r.st, r.d0)) = [(.decodeError, 1)] := by decide

/-! ### The wire items (section 2.2, V-R1; log 1) -/

theorem test_rc :
    after (.rc 1 [0x01]) State.reset (fun t => (t.rxOut, t.rxStatWord)) =
      some ([.frame 1 []], 0x00010003) := by decide
theorem test_config_truncated :
    after (.config 0x13 []) State.reset (fun t => (t.rxOut, t.rxStatWord)) =
      some ([.dropped .truncated], 0x00000101) := by decide
theorem test_rc_records :
    after (.rcThrottle 2 [0xDC, 0x05]) State.reset State.rxOut =
      some [.frame 1 [⟨1, 2, 1500⟩]] ∧
    after (.rcRoll 2 [0xDC, 0x05]) State.reset State.rxOut = some [.frame 1 [⟨0, 2, 1500⟩]] ∧
    after (.rcAux1 2 [0xE8, 0x03]) State.reset State.rxOut = some [.frame 1 [⟨3, 2, 1000⟩]] ∧
    after (.rcAux2 2 [0xD0, 0x07]) State.reset State.rxOut = some [.frame 1 [⟨4, 2, 2000⟩]] ∧
    after (.rcTimestamp 305419896) State.reset State.rxOut =
      some [.frame 1 [⟨100, 4, 305419896⟩]] := by decide
theorem test_cfg_records :
    after (.cfgP 0x3F800000) State.reset State.rxOut = some [.frame 2 [⟨1, 4, 0x3F800000⟩]] ∧
    after (.cfgI 0x3F000000) State.reset State.rxOut = some [.frame 2 [⟨2, 4, 0x3F000000⟩]] ∧
    after (.cfgD 0x3E800000) State.reset State.rxOut = some [.frame 2 [⟨3, 4, 0x3E800000⟩]] := by
  decide

/-! ### Witnesses: for every statement with hypotheses, states and operands that meet them, each clause at a
boundary. The statement is named in the theorem. -/

/-- What `after` sees is a next state. -/
theorem next_of_after {α : Type} {i : Instr} {s : State} {view : State → α} {x : α}
    (h : after i s view = some x) : ∃ t, exec i s = .next t ∧ view t = x := by
  unfold after at h
  split at h
  · next t ht => exact ⟨t, ht, by simpa using h⟩
  · cases h
  · cases h

theorem witness_DecodeInvertsEncode :
    Instr.wf (.rxmsg []) = true ∧ Instr.wf (.rcRoll 0 []) = true ∧
    Instr.wf (.rdreg .fault) = true := by decide

theorem witness_EncodeInvertsDecodeOnCommands :
    decode (.command 0x1107000000FF []) = .ok (.appi 7 255) ∧
    (opField 0x2F0000000001 = 0x2F ∧
      decode (.command 0x2F0000000001 [0x02]) = .ok (.rxmsg [0x02])) := by decide

theorem witness_IllegalWordsFault :
    (State.reset.present (.command 0xFFFFFFFFFFFF [])).inputs =
      .op (.command 0xFFFFFFFFFFFF []) :: [] ∧
    decode (.command 0xFFFFFFFFFFFF []) = .error .unassignedOp ∧
    (stopped.present (.command 0x600700000000 [])).inputs =
      .op (.command 0x600700000000 []) :: [] ∧
    decode (.command 0x600700000000 []) = .error .unassignedRegister := by decide

theorem witness_LegalWordsSelectTheirTableRow :
    decode (.command 0x5B0100000000 []) = .ok (.sendcfg true) ∧
    (⟨"SENDCFG", 0x5B0000000000, 0xFFFEFFFFFFFF⟩ : TableRow 48) ∈ cmdTable ∧
    rowSelects (n := 48) ⟨"SENDCFG", 0x5B0000000000, 0xFFFEFFFFFFFF⟩ 0x5B0100000000 = true ∧
    (⟨"RDREG", 0x600000000000, 0xFF00FFFFFFFF⟩ : TableRow 48) ∈ cmdTable ∧
    rowSelects (n := 48) ⟨"RDREG", 0x600000000000, 0xFF00FFFFFFFF⟩ 0x603000000000 = true ∧
    aField 0x603000000000 = Reg.fault.number ∧
    (⟨"RXMSG", 0x2F0000000000, 0xFFFF00000000⟩ : TableRow 48) ∈ cmdTable ∧
    rowSelects (n := 48) ⟨"RXMSG", 0x2F0000000000, 0xFFFF00000000⟩ 0x2F0000000000 = true ∧
    (vField 0x2F0000000000).toNat = ([] : List Byte).length := by decide

theorem witness_StepRunsTheDecodedInstruction :
    (State.reset.present (.command 0x400000000000 [])).inputs =
      .op (.command 0x400000000000 []) :: [] ∧
    decode (.command 0x400000000000 []) = .ok .keydnThrUp ∧ State.reset.inputs = [] := by decide

theorem witness_ResetRestoresEveryRegister :
    { stopped with inputs := [.reset] }.inputs = .reset :: [] ∧
    { stopped with inputs := [.reset] }.halted = true ∧
    afterStep { stopped with inputs := [.reset] } State.halted = some false := by decide

/-- A state that meets the invariants with a builder open, a message loaded and AUTO on, and whose next
step is an append. -/
theorem witness_StepKeepsTheInvariant :
    { builder 1 [0x07, 0x01, 0xFF] with
      auto := true, throttle := 1000, aux2 := 2000, speedLimit := 500, run := true, tickCnt := 49,
      rx := (loaded oneRecord).rx, rxLen := 8, rxLoaded := true, rxOk := true, rxFtype := 1,
      inputs := [.op (.command 0x1107000000FF [])] }.Inv = true ∧
    afterStep { builder 1 [0x07, 0x01, 0xFF] with
      auto := true, throttle := 1000, aux2 := 2000, speedLimit := 500, run := true, tickCnt := 49,
      rx := (loaded oneRecord).rx, rxLen := 8, rxLoaded := true, rxOk := true, rxFtype := 1,
      inputs := [.op (.command 0x1107000000FF [])] } State.wcur = some 9 := by decide

theorem witness_HaltedBlockOnlyAnswers :
    stopped.halted = true ∧ (∀ r, Instr.keydnAux1 ≠ .rdreg r) ∧
    (stopped.present (.command 0x600700000000 [])).inputs =
      .op (.command 0x600700000000 []) :: [] ∧
    decode (.command 0x600700000000 []) = .error .unassignedRegister ∧
    stopped.inputs.head? ≠ some .reset ∧ step stopped = .next stopped :=
  ⟨rfl, nofun, rfl, by decide, nofun, rfl⟩

theorem witness_OnlyTheNamedOperationsFault :
    (∃ t, exec (.beginFrame 2) (builder 1 []) = .next t ∧ t.fReentrant = true) ∧
    (∃ t, exec .sealFrame State.reset = .next t ∧ t.fNotOpen = true) ∧
    (∃ t, exec .sealFrame stopped = .next t ∧ t.fNotOpen = false) :=
  ⟨next_of_after (by decide), next_of_after (by decide), next_of_after (by decide)⟩

theorem witness_BeginOpensABuilder :
    State.reset.halted = false ∧ State.reset.encOpen = false ∧
    (builder 1 []).halted = false ∧ (builder 1 []).encOpen = true := by decide

/-- For AppiAppendsTheSmallestRecord, AppfAppendsThePattern and ApptAppendsTheTimestamp: a record of 3, 4 and
6 bytes with the builder closed, one byte too long, and fitting exactly. -/
theorem witness_Appends :
    State.reset.halted = false ∧ State.reset.encOpen = false ∧
    (builderAt 253).halted = false ∧ (builderAt 253).encOpen = true ∧
    255 < (builderAt 253).wcur.toNat + 3 ∧ 255 < (builderAt 252).wcur.toNat + 4 ∧
    255 < (builderAt 250).wcur.toNat + 6 ∧ (builderAt 252).wcur.toNat + 3 ≤ 255 ∧
    (builderAt 251).wcur.toNat + 4 ≤ 255 ∧ (builderAt 249).wcur.toNat + 6 ≤ 255 := by decide

theorem witness_AppiAppendsTheSmallestRecord :
    (255 : Word32).toNat ≤ 0xFF ∧ 0xFF < (256 : Word32).toNat ∧
    (65535 : Word32).toNat ≤ 0xFFFF ∧ 0xFFFF < (65536 : Word32).toNat := by decide

theorem witness_SealFinishesTheFrame :
    State.reset.halted = false ∧ State.reset.encOpen = false ∧
    (builderAt 3).encOpen = true ∧ 3 ≤ (builderAt 3).wcur.toNat ∧
    3 ≤ (builderAt 255).wcur.toNat ∧ (builderAt 255).halted = false := by decide

theorem witness_BuildSequencesMatchTheBuilders :
    inAuto.halted = false ∧ inAuto.encOpen = false := by decide

theorem witness_SealedFramesAreAccepted :
    (builder 9 [0x07, 0x01, 0xFF]).Inv = true ∧ (builder 9 [0x07, 0x01, 0xFF]).halted = false ∧
    (builder 9 [0x07, 0x01, 0xFF]).encOpen = true ∧ (builder 0 []).Inv = true := by decide

theorem witness_AppendedRecordsRoundTrip :
    State.reset.halted = false ∧ State.reset.encOpen = false ∧
    [Instr.appi 7 256, .appf 9 0x80000000, .appt 5].map appendedRecord =
      [⟨7, 2, 256⟩, ⟨9, 4, 0x80000000⟩, ⟨100, 4, 5⟩].map some ∧
    (([⟨7, 2, 256⟩, ⟨9, 4, 0x80000000⟩, ⟨100, 4, 5⟩] : List Record).flatMap recordBytes).length ≤
      252 := by decide

/-- 84 records of 3 bytes: exactly 252 (section 2.1, capacity). -/
theorem witness_AppendedRecordsRoundTrip_full :
    (List.replicate 84 (Instr.appi 7 0)).map appendedRecord =
      (List.replicate 84 (⟨7, 1, 0⟩ : Record)).map some ∧
    ((List.replicate 84 (⟨7, 1, 0⟩ : Record)).flatMap recordBytes).length = 252 := by
  rw [List.map_replicate, List.map_replicate, List.length_flatMap, List.map_replicate,
    List.sum_replicate, show (recordBytes ⟨7, 1, 0⟩).length = 3 by decide]
  exact ⟨rfl, rfl⟩

/-- For RxmsgLoadsAndReports and WireItemsArriveAsMessages. -/
theorem witness_Receives :
    State.reset.halted = false ∧ 7 < min oneRecord.length 258 := by decide

theorem witness_SingleRecordsAreDelivered :
    State.reset.halted = false ∧ ([0xDC, 0x05] : List Byte).length = (2 : Byte).toNat ∧
    ([] : List Byte).length = (0 : Byte).toNat ∧
    ¬((0 : Byte) = 1 ∨ (0 : Byte) = 2 ∨ (0 : Byte) = 4) ∧
    (List.replicate 252 (0 : Byte)).length = (252 : Byte).toNat ∧ (252 : Byte).toNat ≤ 252 := by
  rw [List.length_replicate]
  decide

/-- Both sides of the equivalence hold of one message and fail of another. -/
theorem witness_AcceptedMessagesAreExactlyFrames :
    decodeMessage (byteAt oneRecord) oneRecord.length = .ok (1, [⟨7, 2, 256⟩]) ∧
    recordWf ⟨7, 2, 256⟩ = true ∧ oneRecord = frame 1 (recordBytes ⟨7, 2, 256⟩) ∧
    recordWf ⟨7, 1, 256⟩ = false := by decide

theorem witness_StructuralCheckOrder :
    byteAt [0x03, 0x01, 0x01, 0x01] 0 ≠ 0x02 ∧
    (byteAt [0x02, 0x00, 0x01, 0x01] 0 = 0x02 ∧ byteAt [0x02, 0x00, 0x01, 0x01] 1 = 0) ∧
    (byteAt [0x02, 0x02, 0x01, 0x01] 1 ≠ 0 ∧ 4 < (byteAt [0x02, 0x02, 0x01, 0x01] 1).toNat + 3) ∧
    (byteAt [0x02, 0x01, 0x01, 0x01, 0x00] 1).toNat + 3 < 5 ∧
    4 = (byteAt [0x02, 0x01, 0x01, 0x01] 1).toNat + 3 := by decide

/-- A wrong structure, a wrong checksum, and a second record that cannot be read (section 2.2). -/
theorem witness_DropCauseIsTheFirstInOrder :
    structural (byteAt [0x02]) 1 = some .truncated ∧
    (structural (byteAt [0x02, 0x01, 0x01, 0x00]) 4 = none ∧
      xorBytes (slice (byteAt [0x02, 0x01, 0x01, 0x00]) 2 (4 - 1)) ≠
        byteAt [0x02, 0x01, 0x01, 0x00] (4 - 1)) ∧
    structural (byteAt trailingId) 8 = none ∧
    xorBytes (slice (byteAt trailingId) 2 (8 - 1)) = byteAt trailingId (8 - 1) ∧
    recordWf ⟨7, 1, 5⟩ = true ∧ slice (byteAt trailingId) 3 6 = [⟨7, 1, 5⟩].flatMap recordBytes ∧
    tlv (byteAt trailingId) (8 - 1) 6 = .error .tlvSizeUnreadable := by decide

/-- Over `oneRecord`, whose record area is the indices 3 to 6. -/
theorem witness_RecordReaderOrder :
    (2 < 3 ∧ 7 ≤ 7) ∧ (3 ≤ 6 ∧ 6 + 1 = 7) ∧
    (byteAt oneRecord (4 + 1) ∉ ([1, 2, 4] : List Byte) ∧ 4 + 1 < 7) ∧
    (byteAt oneRecord (3 + 1) ∈ ([1, 2, 4] : List Byte) ∧ 3 + 1 < 6 ∧
      6 < 3 + 2 + (byteAt oneRecord (3 + 1)).toNat) ∧
    3 + 2 + (byteAt oneRecord (3 + 1)).toNat ≤ 7 := by decide

theorem witness_DhdrReportsTheHeader :
    (loaded [0x02, 0x01]).halted = false ∧ (loaded [0x02, 0x01]).rxLen.toNat < 3 ∧
    3 ≤ (loaded [0x03, 0x01, 0x01]).rxLen.toNat ∧ (loaded [0x03, 0x01, 0x01]).rxByte 0 ≠ 0x02 ∧
    (loaded [0x02, 0x00, 0x01]).rxByte 0 = 0x02 ∧ (loaded [0x02, 0x00, 0x01]).rxByte 1 = 0 ∧
    (loaded [0x02, 0x01, 0x01]).rxByte 1 ≠ 0 := by decide

/-- `02 01 01 01` is sound, `02 01 01 00` is not; the first and the last byte can be flipped. -/
theorem witness_VchkDetectsEverySingleFlip :
    SoundMessage (loaded [0x02, 0x01, 0x01, 0x01]).rxByte 4 ∧
    ¬SoundMessage (loaded [0x02, 0x01, 0x01, 0x00]).rxByte 4 ∧
    (∃ t, exec (.rxmsg [0x02, 0x01, 0x01, 0x01]) State.reset = .next t ∧
      (after .vchk t reply, t.halted) = (some (some (.ok, 1, 0)), false)) ∧
    (∃ u, exec (.rxmsg ([0x02, 0x01, 0x01, 0x01].set 3 0x81)) State.reset = .next u ∧
      u.halted = false) ∧
    byteAt [0x02, 0x01, 0x01, 0x01] 3 ^^^ BitVec.ofNat 8 (2 ^ 7) = 0x81 :=
  ⟨by unfold SoundMessage; decide, by unfold SoundMessage; decide, next_of_after (by decide),
    next_of_after (by decide), by decide⟩

theorem witness_ChecksumIsBlindToReordering :
    ([0x01, 0x07, 0x02] : List Byte).Perm [0x02, 0x07, 0x01] ∧
    ([0x01, 0x07, 0x02] : List Byte).length = (3 : Byte).toNat ∧
    SoundMessage (byteAt oneRecord) oneRecord.length ∧ 6 < 7 ∧ 7 < oneRecord.length :=
  ⟨by decide, by decide, by unfold SoundMessage; decide, by decide, by decide⟩

theorem witness_DtlvReadsOneRecord :
    (loaded oneRecord).halted = false ∧
    structural (loaded []).rxByte (loaded []).rxLen.toNat = some .truncated ∧
    structural (loaded oneRecord).rxByte (loaded oneRecord).rxLen.toNat = none ∧
    tlv (loaded oneRecord).rxByte (2 + ((loaded oneRecord).rxByte 1).toNat) 7 =
      .error .tlvOffset ∧
    tlv (loaded oneRecord).rxByte (2 + ((loaded oneRecord).rxByte 1).toNat) 3 =
      .ok ⟨⟨7, 2, 256⟩, 7⟩ := by decide

theorem witness_WalkYieldsTheFrameItem :
    State.reset.halted = false ∧
    (∃ t, exec (.rxmsg oneRecord) State.reset = .next t ∧ t.rxOk = true) ∧
    (∃ t, exec (.rxmsg [0x02, 0x01, 0x01, 0x01]) State.reset = .next t ∧ t.rxOk = true) :=
  ⟨rfl, next_of_after (by decide), next_of_after (by decide)⟩

/-- A halted block, each way a header can be bad, an unsound message, and a sound one of each kind. -/
theorem witness_DecodeStopsAtTheFirstError :
    stopped.halted = true ∧ (loaded [0x02, 0x01]).rxLen.toNat < 3 ∧
    3 ≤ (loaded [0x03, 0x01, 0x01]).rxLen.toNat ∧ (loaded [0x03, 0x01, 0x01]).rxByte 0 ≠ 0x02 ∧
    ((loaded [0x02, 0x00, 0x01]).rxByte 0 = 0x02 ∧ (loaded [0x02, 0x00, 0x01]).rxByte 1 = 0) ∧
    (loaded [0x02, 0x01, 0x01]).rxByte 1 ≠ 0 ∧
    ¬SoundMessage (loaded [0x02, 0x01, 0x01]).rxByte (loaded [0x02, 0x01, 0x01]).rxLen.toNat ∧
    SoundMessage (loaded oneRecord).rxByte (loaded oneRecord).rxLen.toNat ∧
    recordsOf (loaded oneRecord).rxByte 7 = .ok [⟨7, 2, 256⟩] ∧
    SoundMessage (loaded trailingId).rxByte (loaded trailingId).rxLen.toNat ∧
    recordsOf (loaded trailingId).rxByte 7 = .error .tlvSizeUnreadable := by
  unfold SoundMessage
  decide

/-- For BrcReturnsTheRcFrame, BcfgReturnsTheConfigFrame and BuilderFramesRoundTrip: the channels at both ends
of their range. -/
theorem witness_BuilderFrames :
    State.reset.halted = false ∧
    { State.reset with throttle := 2000, roll := 1000, aux1 := 2000, aux2 := 2000 }.channelInv =
      true ∧
    { State.reset with throttle := 1000, roll := 2000 }.channelInv = true := by decide

/-- For ThrottleKeysActOutsideAuto, RollKeysActInEveryMode, AuxOneIsMomentary and AutoTogglesOnPress. -/
theorem witness_KeyStatements :
    (limited 500).halted = false ∧ (limited 500).auto = false ∧ (limited 500).heldAuto = false ∧
    (limited 500).speedLimit.toNat ≤ 500 ∧ inAuto.halted = false ∧ inAuto.auto = true ∧
    inAuto.heldAuto = false ∧ { inAuto with heldAuto := true }.heldAuto = true := by decide

theorem witness_AuxTwoTogglesOnPress :
    { State.reset with heldAux2 := true }.heldAux2 = true ∧ inAuto.heldAux2 = false ∧
    inAuto.auto = true ∧ State.reset.heldAux2 = false ∧ State.reset.auto = false ∧
    State.reset.aux2 ≠ 2000 ∧ { State.reset with aux2 := 2000 }.aux2 = 2000 := by decide

theorem witness_SetspdSetsTheLimit :
    500 < (501 : Word32).toNat ∧ (500 : Word32).toNat ≤ 500 ∧ inAuto.auto = true ∧
    State.reset.auto = false ∧ State.reset.halted = false ∧ inAuto.halted = false := by decide

theorem witness_ModeChangesOnlyByTheToggles :
    State.reset.channelInv = true ∧ inAuto.channelInv = true ∧
    { State.reset with aux2 := 2000 }.channelInv = true ∧ State.reset.mode = 0 ∧
    { State.reset with aux2 := 2000 }.mode = 1 ∧ inAuto.mode = 2 ∧
    (∃ t, exec .keydnAux2 State.reset = .next t ∧ t.mode = 1) ∧
    (∃ t, exec .keydnAuto inAuto = .next t ∧ t.mode = 0) :=
  ⟨by decide, by decide, by decide, by decide, by decide, by decide, next_of_after (by decide),
    next_of_after (by decide)⟩

/-- For TimerStartsAndCancels, PauseAndConnectionBits, PulsesCountAndTick and GainsAreStoredUnchanged. -/
theorem witness_TimerStatements :
    State.reset.halted = false ∧ State.reset.run = false ∧ (running 0).run = true ∧
    (running 48).tickCnt.toNat ≠ 49 ∧ (running 49).tickCnt.toNat = 49 ∧
    (running 49).connected = true ∧ (running 49).paused = false ∧ (running 49).halted = false ∧
    ¬({ running 49 with paused := true }.connected = true ∧
      { running 49 with paused := true }.paused = false ∧ true = true) := by decide

theorem witness_NoSendAfterCancel :
    (running 49).halted = false ∧
    (∀ i ∈ [Instr.mspulse 50 true, .connect, .brc 0],
      i ≠ .tmrstart ∧ i ≠ .sendcfg false ∧ i ≠ .sendcfg true) := by decide

theorem witness_OneFrameEveryFiftyPulses :
    (running 0).halted = false ∧ (running 0).run = true ∧ (running 0).connected = true ∧
    (running 0).paused = false ∧ (running 0).tickCnt = 0 ∧
    isInputOp .keydnAux1 = true ∧
    pulsesIn (.keydnAux1 :: wait 49 0 true) % 50 = 49 := by decide

theorem witness_OnlyTickAndSendcfgSend :
    (∃ t, exec (.mspulse 7 true) (running 49) = .next t ∧ t.txOut.length = 1) ∧
    (∃ t, exec (.sendcfg true) (running 0) = .next t ∧ t.txOut.length = 1) ∧
    (∃ t, exec (.mspulse 7 true) (running 48) = .next t ∧ t.txOut.length = 0) :=
  ⟨next_of_after (by decide), next_of_after (by decide), next_of_after (by decide)⟩

theorem witness_SendcfgSendsTheGains :
    (running 0).halted = false ∧ (running 0).connected = true ∧ State.reset.connected = false := by
  decide

theorem witness_UnitsWriteOnlyTheirOwnState :
    isInputOp (.beginFrame 1) = false ∧ isEncoderOp .keydnAux1 = false ∧
    isReceiveOp .keydnAux1 = false ∧
    (∃ t, exec .keydnAux1 (running 49) = .next t ∧ t.aux1 = 2000) :=
  ⟨rfl, rfl, rfl, next_of_after (by decide)⟩

theorem witness_ReadsHaveNoSideEffect :
    isReadOp .dhdr = true ∧ isReadOp (.rdreg .fault) = true ∧ isReadOp (.dtlv 3) = true := by decide

end Sys2Proof.Tests
end

section
/-! PROOFS. The frame encoder (40_frame_encoder.md): `BEGIN`, the three appends and `SEAL` on a block that is
not halted. First what the operations do to `EB` and the builder, then the obligations. -/

namespace Sys2Proof.Machine

/-! ### The meaning of each encoder row -/

theorem exec_beginFrame (ty : Byte) (s : State) : exec (.beginFrame ty) s = execBegin ty s := rfl

theorem exec_appi (id : Byte) (v : Word32) (s : State) : exec (.appi id v) s = execAppi id v s := rfl

theorem exec_appf (id : Byte) (v : Word32) (s : State) : exec (.appf id v) s = execAppf id v s := rfl

theorem exec_appt (v : Word32) (s : State) : exec (.appt v) s = execAppt v s := rfl

theorem exec_sealFrame (s : State) : exec .sealFrame s = execSeal s := rfl

/-! ### The records byte by byte (R95 to R97) -/

theorem irec_of_le_one_byte (id : Byte) {v : Word32} (h : v.toNat ≤ 0xFF) :
    irec id v = [id, 1, v.extractLsb' 0 8] := by
  have hsize : intSize v = 1 := if_pos h
  rw [irec, hsize, leBytes_one]
  rfl

theorem irec_of_le_two_bytes (id : Byte) {v : Word32} (h1 : 0xFF < v.toNat) (h2 : v.toNat ≤ 0xFFFF) :
    irec id v = [id, 2, v.extractLsb' 0 8, v.extractLsb' 8 8] := by
  have hsize : intSize v = 2 := by rw [intSize, if_neg (Nat.not_le_of_lt h1), if_pos h2]
  rw [irec, hsize, leBytes_two]
  rfl

theorem irec_of_gt_two_bytes (id : Byte) {v : Word32} (h : 0xFFFF < v.toNat) :
    irec id v =
      [id, 4, v.extractLsb' 0 8, v.extractLsb' 8 8, v.extractLsb' 16 8, v.extractLsb' 24 8] := by
  have hsize : intSize v = 4 := by rw [intSize, if_neg (by omega), if_neg (Nat.not_le_of_lt h)]
  rw [irec, hsize, leBytes_four]
  rfl

theorem frec_eq (id : Byte) (v : Word32) :
    frec id v =
      [id, 4, v.extractLsb' 0 8, v.extractLsb' 8 8, v.extractLsb' 16 8, v.extractLsb' 24 8] := by
  rw [frec, leBytes_four]
  rfl

theorem trec_eq (v : Word32) :
    trec v =
      [100, 4, v.extractLsb' 0 8, v.extractLsb' 8 8, v.extractLsb' 16 8, v.extractLsb' 24 8] := by
  rw [trec, leBytes_four]
  rfl

/-! ### BEGIN (R130) -/

theorem exec_beginFrame_open {s : State} (hrun : s.halted = false) (hopen : s.encOpen = true)
    (ty : Byte) :
    exec (.beginFrame ty) s =
      .next ({ s with fReentrant := true }.answered .host .fault 1 0 []) := by
  rw [exec_beginFrame, execBegin, unlessHalted_running hrun, if_pos hopen,
    s.raiseFault_reentrant hrun]
  rfl

theorem exec_beginFrame_closed {s : State} (hrun : s.halted = false) (hopen : s.encOpen = false)
    (ty : Byte) :
    exec (.beginFrame ty) s =
      .next ({ s with
        eb := s.eb.writeBytes 0 [Config.stx, 0x00, ty]
        wcur := 3
        encOpen := true }.answered .host .ok 0 0 []) := by
  rw [exec_beginFrame, execBegin, unlessHalted_running hrun, if_neg (by simp [hopen])]
  rfl

/-- Settles O14: each of the two tests of `BEGIN`, then the three bytes it writes. -/
theorem beginOpensABuilder : Obligations.BeginOpensABuilder := by
  intro ty
  refine ⟨decodeCommand_commandWord 0x10 ty 0 [], fun s hrun => ⟨fun hopen => ?_, fun hopen => ?_⟩⟩
  · exact exec_beginFrame_open hrun hopen ty
  · refine ⟨_, exec_beginFrame_closed hrun hopen ty, ?_, ?_, ?_, fun a ha => ?_⟩ <;>
      rw [ebByte_writeBytes]
    · rfl
    · rfl
    · rfl
    · exact if_neg (by simp; omega)

/-! ### The appends (R131 to R134) -/

theorem exec_appi_running {s : State} (hrun : s.halted = false) (id : Byte) (v : Word32) :
    exec (.appi id v) s = .next (s.append (irec id v)) := by
  rw [exec_appi, execAppi, unlessHalted_running hrun]

theorem exec_appf_running {s : State} (hrun : s.halted = false) (id : Byte) (v : Word32) :
    exec (.appf id v) s = .next (s.append (frec id v)) := by
  rw [exec_appf, execAppf, unlessHalted_running hrun]

theorem exec_appt_running {s : State} (hrun : s.halted = false) (v : Word32) :
    exec (.appt v) s = .next (s.append (trec v)) := by
  rw [exec_appt, execAppt, unlessHalted_running hrun]

/-- Byte `k` of a sequence written to `EB` from index `a` on is read at `a + k`. -/
theorem ebByte_writeBytes_of_getElem? {bs : List Byte} {k : Nat} {b : Byte} (s : State) (a : Nat)
    (h : bs[k]? = some b) : { s with eb := s.eb.writeBytes a bs }.ebByte (a + k) = b := by
  obtain ⟨hk, -⟩ := List.getElem?_eq_some_iff.1 h
  rw [ebByte_writeBytes, if_pos (by omega), Nat.add_sub_cancel_left, byteAt,
    List.getD_eq_getElem?_getD, h]
  rfl

/-- The three append operations differ in the record only (R131): an instruction that runs the append step on
a record is an append of that record. -/
theorem Appends.of_exec_eq {i : Instr} {record : List Byte}
    (h : ∀ s : State, s.halted = false → exec i s = .next (s.append record)) :
    Appends i record := by
  intro s hrun
  rw [h s hrun]
  rcases s.append_cases record with ⟨hopen, happ⟩ | ⟨hopen, hspace, happ⟩ | ⟨hopen, hspace, happ⟩
  case inl =>
    refine ⟨fun _ => ?_, by simp [hopen], by simp [hopen]⟩
    rw [happ, s.raiseFault_notOpen hrun]
    rfl
  case inr.inl =>
    refine ⟨by simp [hopen], fun _ _ => ?_, fun _ _ => by omega⟩
    rw [happ]
    rfl
  case inr.inr =>
    refine ⟨by simp [hopen], fun _ _ => by omega, fun _ _ =>
      ⟨s.eb.writeBytes s.wcur.toNat record, ?_, fun k b hb => ?_, fun a ha => ?_⟩⟩
    · exact congrArg _ happ
    · exact ebByte_writeBytes_of_getElem? s _ hb
    · exact (ebByte_writeBytes s _ record a).trans (if_neg (by omega))

/-- Settles O15: an append of `irec`, whose size byte follows the value's range. -/
theorem appiAppendsTheSmallestRecord : Obligations.AppiAppendsTheSmallestRecord := by
  intro id v
  have happ : Appends (.appi id v) (irec id v) := .of_exec_eq fun _ hrun => exec_appi_running hrun id v
  refine ⟨decodeCommand_commandWord 0x11 id v [], fun h => ?_, fun h1 h2 => ?_, fun h => ?_⟩
  · rwa [irec_of_le_one_byte id h] at happ
  · rwa [irec_of_le_two_bytes id h1 h2] at happ
  · rwa [irec_of_gt_two_bytes id h] at happ

/-- Settles O16: an append of `frec`. -/
theorem appfAppendsThePattern : Obligations.AppfAppendsThePattern := by
  intro id v
  refine ⟨decodeCommand_commandWord 0x12 id v [], ?_⟩
  rw [← frec_eq]
  exact .of_exec_eq fun _ hrun => exec_appf_running hrun id v

/-- Settles O17: an append of `trec`, of size 4 where `irec` might be shorter. -/
theorem apptAppendsTheTimestamp : Obligations.ApptAppendsTheTimestamp := by
  intro v
  refine ⟨decodeCommand_commandWord 0x13 0 v [], ?_⟩
  rw [← trec_eq]
  exact .of_exec_eq fun _ hrun => exec_appt_running hrun v

/-! ### SEAL (R135) -/

/-- A slice is what stands before its last byte, and that byte. -/
theorem slice_succ {byte : Nat → Byte} {i j : Nat} (h : i ≤ j) :
    slice byte i (j + 1) = slice byte i j ++ [byte j] := by
  have hlast : i + (j - i) = j := by omega
  simp only [slice, Nat.succ_sub h, List.range_succ, List.map_append, List.map_singleton, hlast]

/-- `SEAL` writes `EB` only. -/
theorem State.sealWrites_eq (s : State) : s.sealWrites = { s with eb := s.sealWrites.eb } := rfl

/-- The checksum `SEAL` computes after the length patch is that of the bytes before it: the range starts
above index 1. -/
theorem State.sealWrites_eb (s : State) :
    s.sealWrites.eb =
      (s.eb.write 1 (BitVec.ofNat 8 (s.wcur.toNat - 2))).write s.wcur.toNat
        (xorBytes (slice s.ebByte 2 s.wcur.toNat)) := by
  have hslice : slice { s with eb := s.eb.write 1 (BitVec.ofNat 8 (s.wcur.toNat - 2)) }.ebByte 2
      s.wcur.toNat = slice s.ebByte 2 s.wcur.toNat :=
    slice_congr fun k hk _ => (ebByte_write s 1 _ k).trans (if_neg (by omega))
  simp only [State.sealWrites, hslice]

/-- `EB` after the two writes of `SEAL`. -/
theorem State.sealWrites_ebByte (s : State) (i : Nat) :
    s.sealWrites.ebByte i =
      if i = s.wcur.toNat then xorBytes (slice s.ebByte 2 s.wcur.toNat)
      else if i = 1 then BitVec.ofNat 8 (s.wcur.toNat - 2)
      else s.ebByte i := by
  rw [State.sealWrites_eq, State.sealWrites_eb]
  simp only [State.ebByte, Memory.get_write]
  split
  · rfl
  · split <;> rfl

theorem State.sealWrites_ebByte_length {s : State} (h : 3 ≤ s.wcur.toNat) :
    s.sealWrites.ebByte 1 = BitVec.ofNat 8 (s.wcur.toNat - 2) := by
  rw [State.sealWrites_ebByte, if_neg (by omega), if_pos rfl]

theorem State.sealWrites_ebByte_checksum (s : State) :
    s.sealWrites.ebByte s.wcur.toNat = xorBytes (slice s.ebByte 2 s.wcur.toNat) := by
  rw [State.sealWrites_ebByte, if_pos rfl]

theorem State.sealWrites_ebByte_other (s : State) {i : Nat} (h1 : i ≠ 1) (hw : i ≠ s.wcur.toNat) :
    s.sealWrites.ebByte i = s.ebByte i := by
  rw [State.sealWrites_ebByte, if_neg hw, if_neg h1]

/-- The finished frame: header, length, the bytes of the body as they were, checksum. -/
theorem State.sealedFrame_eq {s : State} (h : 3 ≤ s.wcur.toNat) :
    s.sealedFrame =
      [s.ebByte 0, BitVec.ofNat 8 (s.wcur.toNat - 2)] ++ slice s.ebByte 2 s.wcur.toNat ++
        [xorBytes (slice s.ebByte 2 s.wcur.toNat)] := by
  have hbody : slice s.sealWrites.ebByte 2 s.wcur.toNat = slice s.ebByte 2 s.wcur.toNat :=
    slice_congr fun k _ _ => s.sealWrites_ebByte_other (by omega) (by omega)
  rw [State.sealedFrame, slice_succ (Nat.zero_le _), slice_cons (by omega), slice_cons (by omega),
    hbody, s.sealWrites_ebByte_other (by omega) (by omega), s.sealWrites_ebByte_length h,
    s.sealWrites_ebByte_checksum]
  rfl

theorem exec_sealFrame_closed {s : State} (hrun : s.halted = false) (hopen : s.encOpen = false) :
    exec .sealFrame s = .next ({ s with fNotOpen := true }.answered .host .fault 2 0 []) := by
  rw [exec_sealFrame, execSeal, unlessHalted_running hrun, if_neg (by simp [hopen]),
    s.raiseFault_notOpen hrun]
  rfl

theorem exec_sealFrame_open {s : State} (hrun : s.halted = false) (hopen : s.encOpen = true) :
    exec .sealFrame s =
      .next ({ s with eb := s.sealWrites.eb, encOpen := false, wcur := 0 }.answered .host .ok
        (BitVec.ofNat 32 (s.wcur.toNat + 1)) 0 s.sealedFrame) := by
  rw [exec_sealFrame, execSeal, unlessHalted_running hrun, if_pos hopen]
  rfl

/-- Settles O18: the contents of `EB` after the two writes decide the frame and every byte left. -/
theorem sealFinishesTheFrame : Obligations.SealFinishesTheFrame := by
  refine ⟨rfl, fun s hrun => ⟨fun hopen => exec_sealFrame_closed hrun hopen, fun hopen hw => ?_⟩⟩
  exact ⟨s.sealWrites.eb, s.sealedFrame, exec_sealFrame_open hrun hopen, State.sealedFrame_eq hw,
    State.sealWrites_ebByte_length hw, s.sealWrites_ebByte_checksum,
    fun _ h1 hne => s.sealWrites_ebByte_other h1 hne⟩

end Sys2Proof.Machine
end

section
/-! PROOFS. The frame decoder (41_frame_decoder.md): the structural check, the record reader, and `DHDR`, `VCHK`,
`DTLV` and the walk of `DECODE` on a block that is not halted. -/

namespace Sys2Proof.Machine

/-! ### The structural check and the record reader (R152, R158) -/

/-- Settles O26: the tests one after another, then what all of them passing leaves. -/
theorem structuralCheckOrder : Obligations.StructuralCheckOrder := by
  intro byte n
  have hbyte := (byte 1).isLt
  refine ⟨fun hn => ?_, fun hn h0 => ?_, fun hn h0 h1 => ?_, fun hn h0 h1 hlen => ?_,
    fun hn h0 h1 hlen => ?_, fun hn h0 h1 hlen => ?_, fun h => ?_⟩
  · rw [structural_eq, if_pos hn]
  · rw [structural_eq, if_neg (by omega), if_pos h0]
  · rw [structural_eq, if_neg (by omega), if_neg (not_not.2 h0), if_pos h1]
  · rw [structural_eq, if_neg (by omega), if_neg (not_not.2 h0), if_neg h1, if_pos hlen]
  · rw [structural_eq, if_neg (by omega), if_neg (not_not.2 h0), if_neg h1, if_neg (by omega),
      if_pos hlen]
  · exact (structural_eq_none_iff byte n).2 ⟨hn, h0, h1, hlen⟩
  · obtain ⟨hn, -, -, hlen⟩ := (structural_eq_none_iff byte n).1 h
    exact ⟨hn, hlen, by omega⟩

/-- Settles O28: the tests one after another, then the record. -/
theorem recordReaderOrder : Obligations.RecordReaderOrder := by
  intro byte last o
  have hsize : byte (o + 1) ∈ ([1, 2, 4] : List Byte) ↔
      byte (o + 1) = 1 ∨ byte (o + 1) = 2 ∨ byte (o + 1) = 4 := by simp
  rw [hsize]
  refine ⟨fun ho => ?_, fun ho hlast => ?_, fun ho hlast hbad => ?_,
    fun ho hlast hgood hover => ?_, fun ho hlast hgood hfits => ?_⟩
  · rw [tlv, if_pos ho]
  · rw [tlv, if_neg (by omega), if_pos (by omega)]
  · rw [tlv, if_neg (by omega), if_neg (by omega), if_pos hbad]
  · rw [tlv, if_neg (by omega), if_neg (by omega), if_neg (not_not.2 hgood), if_pos hover]
  · exact (tlv_eq_ok_iff ..).2 ⟨ho, hlast, hgood, hfits, rfl⟩

/-- The walk that succeeds: at the end of the record area, or one record and a walk from the next index. -/
theorem walk_succ_eq_ok {byte : Nat → Byte} {last fuel o : Nat} {records : List Record}
    (h : walk byte last (fuel + 1) o = .ok records) :
    (last ≤ o ∧ records = []) ∨
    (o < last ∧ ∃ r rest, tlv byte last o = .ok r ∧ walk byte last fuel r.next = .ok rest ∧
      records = r.record :: rest) := by
  by_cases ho : o < last
  · rw [walk_succ _ _ _ _ ho] at h
    cases hr : tlv byte last o with
    | error c => simp [hr] at h
    | ok r =>
      cases hrest : walk byte last fuel r.next with
      | error c => simp [hr, hrest] at h
      | ok rest =>
        simp only [hr, hrest, Except.ok.injEq] at h
        exact .inr ⟨ho, r, rest, rfl, hrest, h.symm⟩
  · rw [walk_end _ _ _ _ (by omega), Except.ok.injEq] at h
    exact .inl ⟨by omega, h.symm⟩

/-- Every record takes at least 3 bytes of the record area (R94). -/
theorem walk_length_le {byte : Nat → Byte} {last fuel o : Nat} {records : List Record}
    (h : walk byte last fuel o = .ok records) : 3 * records.length ≤ last - o := by
  induction fuel generalizing o records with
  | zero =>
    rw [walk, Except.ok.injEq] at h
    simp [← h]
  | succ fuel ih =>
    obtain ⟨-, rfl⟩ | ⟨ho, r, rest, hr, hrest, rfl⟩ := walk_succ_eq_ok h
    · simp
    · obtain ⟨hnext, hlast⟩ := tlv_bounds hr
      have := ih hrest
      rw [List.length_cons]
      omega

/-! ### The words of the responses -/

/-- A field placed above the bits of another adds up. -/
theorem ofNat_or_shiftLeft {low k : Nat} (high : Nat) (h : low < 2 ^ k) :
    BitVec.ofNat 32 low ||| BitVec.ofNat 32 high <<< k = BitVec.ofNat 32 (low + 2 ^ k * high) := by
  have hshift : BitVec.ofNat 32 high <<< k = BitVec.ofNat 32 (high <<< k) := by
    apply BitVec.eq_of_toNat_eq
    simp [Nat.shiftLeft_eq]
  rw [hshift, ← BitVec.ofNat_or, Nat.or_comm, ← Nat.shiftLeft_add_eq_or_of_lt h,
    Nat.shiftLeft_eq, Nat.mul_comm, Nat.add_comm]

/-- Two bytes in bits 7:0 and 15:8 of a word, as in the responses of `DHDR` and `DTLV` (R154, R160). -/
theorem bytes_or_shiftLeft (low high : Byte) :
    low.setWidth 32 ||| high.setWidth 32 <<< 8 = BitVec.ofNat 32 (low.toNat + 256 * high.toNat) := by
  rw [← BitVec.ofNat_toNat, ← BitVec.ofNat_toNat]
  exact ofNat_or_shiftLeft _ low.isLt

theorem tlvWord_eq (r : TlvRead) :
    tlvWord r =
      BitVec.ofNat 32 (r.record.id.toNat + 256 * r.record.size.toNat + 65536 * r.next) := by
  have hid := r.record.id.isLt
  have hsize := r.record.size.isLt
  rw [tlvWord, bytes_or_shiftLeft]
  exact ofNat_or_shiftLeft _ (by omega)

theorem tlvWord_toNat {r : TlvRead} (h : r.next < 65536) :
    (tlvWord r).toNat = r.record.id.toNat + 256 * r.record.size.toNat + 65536 * r.next := by
  have hid := r.record.id.isLt
  have hsize := r.record.size.isLt
  rw [tlvWord_eq, BitVec.toNat_ofNat, Nat.mod_eq_of_lt (by omega)]

theorem tlvWord_next {r : TlvRead} (h : r.next < 65536) : (tlvWord r >>> 16).toNat = r.next := by
  have hid := r.record.id.isLt
  have hsize := r.record.size.isLt
  rw [BitVec.toNat_ushiftRight, Nat.shiftRight_eq_div_pow, tlvWord_toNat h]
  omega

/-- The response of a successful `DTLV` carries the record read. -/
theorem recordOfResponse_tlvWord {r : TlvRead} (h : r.next < 65536) :
    recordOfResponse (okResponse r.record.value (tlvWord r) []) = r.record := by
  have hid := r.record.id.isLt
  have hsize := r.record.size.isLt
  have id_eq : (tlvWord r).extractLsb' 0 8 = r.record.id := by
    apply BitVec.eq_of_toNat_eq
    rw [BitVec.extractLsb'_toNat, Nat.shiftRight_eq_div_pow, tlvWord_toNat h]
    omega
  have size_eq : (tlvWord r).extractLsb' 8 8 = r.record.size := by
    apply BitVec.eq_of_toNat_eq
    rw [BitVec.extractLsb'_toNat, Nat.shiftRight_eq_div_pow, tlvWord_toNat h]
    omega
  rw [recordOfResponse, okResponse, id_eq, size_eq]

/-! ### DHDR (R154) -/

theorem exec_dhdr (s : State) : exec .dhdr s = execDhdr s := rfl

theorem exec_dhdr_header {s : State} (hrun : s.halted = false) (hlen : 3 ≤ s.rxLen.toNat)
    (hstx : s.rxByte 0 = 0x02) (hlength : s.rxByte 1 ≠ 0) :
    exec .dhdr s = .next (s.answered .host .ok
      (BitVec.ofNat 32 ((s.rxByte 2).toNat + 256 * (s.rxByte 1).toNat)) 0 []) := by
  rw [exec_dhdr, execDhdr, unlessHalted_running hrun, if_neg (Nat.not_lt.2 hlen),
    if_neg (not_not.2 hstx), if_neg hlength, bytes_or_shiftLeft]
  rfl

/-- Settles O29: the tests of `DHDR` one after another, then the header. -/
theorem dhdrReportsTheHeader : Obligations.DhdrReportsTheHeader := by
  refine ⟨rfl, fun s hrun => ⟨fun hlen => ?_, fun hlen h0 => ?_, fun hlen h0 h1 => ?_,
    exec_dhdr_header hrun⟩⟩ <;>
    rw [exec_dhdr, execDhdr, unlessHalted_running hrun]
  · rw [if_pos hlen]
    rfl
  · rw [if_neg (Nat.not_lt.2 hlen), if_pos h0]
    rfl
  · rw [if_neg (Nat.not_lt.2 hlen), if_neg (not_not.2 h0), if_pos h1]
    rfl

/-! ### DTLV (R160) -/

theorem exec_dtlv (offset : Word32) (s : State) : exec (.dtlv offset) s = execDtlv offset s := rfl

theorem exec_dtlv_error {s : State} {offset : Word32} {c : Cause} (hrun : s.halted = false)
    (h : s.readRecord offset.toNat = .error c) :
    exec (.dtlv offset) s = .next (s.answered .host .decodeError (c.code.setWidth 32) 0 []) := by
  rw [exec_dtlv, execDtlv, unlessHalted_running hrun, h]
  rfl

theorem exec_dtlv_ok {s : State} {offset : Word32} {r : TlvRead} (hrun : s.halted = false)
    (h : s.readRecord offset.toNat = .ok r) :
    exec (.dtlv offset) s =
      .next (s.answer .host (okResponse r.record.value (tlvWord r) [])) := by
  rw [exec_dtlv, execDtlv, unlessHalted_running hrun, h]

theorem State.readRecord_bad_structure {s : State} {c : Cause} (offset : Nat)
    (h : structural s.rxByte s.rxLen.toNat = some c) : s.readRecord offset = .error c := by
  rw [State.readRecord, h]

theorem State.readRecord_good_structure {s : State} (offset : Nat)
    (h : structural s.rxByte s.rxLen.toNat = none) :
    s.readRecord offset = tlv s.rxByte (endOf s.rxByte) offset := by
  rw [State.readRecord, h]

/-- Settles O32: the read of `DTLV` by the structural check, then by the record reader. -/
theorem dtlvReadsOneRecord : Obligations.DtlvReadsOneRecord := by
  intro offset
  refine ⟨decodeCommand_commandWord 0x22 0 offset [], fun s hrun => ⟨fun c hbad => ?_,
    fun c hgood hread => ?_, fun r hgood hread => ?_, fun r hread => tlv_bounds hread⟩⟩
  · exact exec_dtlv_error hrun (s.readRecord_bad_structure _ hbad)
  · exact exec_dtlv_error hrun ((s.readRecord_good_structure _ hgood).trans hread)
  · rw [exec_dtlv_ok hrun ((s.readRecord_good_structure _ hgood).trans hread), tlvWord_eq]
    rfl

/-! ### VCHK (R152, R153, R156) -/

/-- The acceptance test is the structural check and the checksum test. -/
theorem soundMessage_iff (byte : Nat → Byte) (n : Nat) :
    SoundMessage byte n ↔ structural byte n = none ∧ cksumOk byte = true := by
  have hend : n = (byte 1).toNat + 3 → n - 1 = endOf byte := by
    unfold endOf
    omega
  rw [SoundMessage, structural_eq_none_iff, cksumOk, beq_iff_eq]
  constructor
  · rintro ⟨hn, h0, h1, hlen, hck⟩
    exact ⟨⟨hn, h0, h1, hlen⟩, hend hlen ▸ hck⟩
  · rintro ⟨⟨hn, h0, h1, hlen⟩, hck⟩
    exact ⟨hn, h0, h1, hlen, (hend hlen).symm ▸ hck⟩

theorem State.checksumValid_iff (s : State) :
    s.checksumValid = true ↔ SoundMessage s.rxByte s.rxLen.toNat := by
  rw [State.checksumValid, Bool.and_eq_true, beq_iff_eq, soundMessage_iff]

theorem exec_vchk (s : State) : exec .vchk s = execVchk s := rfl

theorem exec_vchk_sound {s : State} (hrun : s.halted = false)
    (h : SoundMessage s.rxByte s.rxLen.toNat) :
    exec .vchk s = .next (s.answered .host .ok 1 0 []) := by
  rw [exec_vchk, execVchk, unlessHalted_running hrun, if_pos (s.checksumValid_iff.2 h)]
  rfl

theorem exec_vchk_unsound {s : State} (hrun : s.halted = false)
    (h : ¬SoundMessage s.rxByte s.rxLen.toNat) :
    exec .vchk s = .next (s.answered .host .ok 0 0 []) := by
  rw [exec_vchk, execVchk, unlessHalted_running hrun, if_neg (mt s.checksumValid_iff.1 h)]
  rfl

/-- The answer 1 is given for sound messages only. -/
theorem soundMessage_of_exec_vchk {s : State} (hrun : s.halted = false)
    (h : exec .vchk s = .next (s.answered .host .ok 1 0 [])) :
    SoundMessage s.rxByte s.rxLen.toNat := by
  by_contra hunsound
  rw [exec_vchk_unsound hrun hunsound, Host.Outcome.next.injEq] at h
  have hanswers := congrArg State.answers h
  simp [State.answered] at hanswers

/-! ### The message that was received (R150) -/

theorem exec_rxmsg_running {s : State} (hrun : s.halted = false) (bytes : List Byte) :
    exec (.rxmsg bytes) s = .next (s.receive bytes) :=
  unlessHalted_running hrun .transport fun s => s.receive bytes

/-- `RX`, `RXLEN` and the fault bits after a message are those of the load; the report touches `RXSTAT` and
`rx_out` only. -/
theorem State.receive_frame (s : State) (bytes : List Byte) :
    (s.receive bytes).rxByte = (s.loadRx bytes).rxByte ∧
      (s.receive bytes).rxLen = (s.loadRx bytes).rxLen ∧ (s.receive bytes).halted = s.halted := by
  obtain ⟨_, _, -, h⟩ | ⟨_, -, h⟩ := s.receive_cases bytes <;> rw [h] <;> exact ⟨rfl, rfl, rfl⟩

/-- The acceptance test of a message of at most 258 bytes reads only its bytes, and refuses a longer one. -/
theorem SoundMessage.congr {byte byte' : Nat → Byte} {n n' : Nat} (hsound : SoundMessage byte n)
    (h : ∀ k, k < min n 258 → byte k = byte' k) (hn : min n 259 = min n' 259) :
    SoundMessage byte' n' := by
  obtain ⟨h4, h0, h1, hlen, hck⟩ := hsound
  have hbyte := (byte 1).isLt
  obtain rfl : n' = n := by omega
  have hslice : slice byte 2 (n' - 1) = slice byte' 2 (n' - 1) :=
    slice_congr fun k _ hk => h k (by omega)
  rw [SoundMessage, ← h 0 (by omega), ← h 1 (by omega), ← hslice, ← h (n' - 1) (by omega)]
  exact ⟨h4, h0, h1, hlen, hck⟩

/-- What `VCHK` tests after `RXMSG` is the message, not the buffer around it. -/
theorem soundMessage_receive_iff (s : State) (bytes : List Byte) :
    SoundMessage (s.receive bytes).rxByte (s.receive bytes).rxLen.toNat ↔
      SoundMessage (byteAt bytes) bytes.length := by
  obtain ⟨hbyte, hlen, -⟩ := s.receive_frame bytes
  rw [hbyte, hlen, rxLen_loadRx]
  constructor
  · exact fun h => h.congr (fun k hk => rxByte_loadRx s bytes k (by omega)) (by omega)
  · exact fun h => h.congr (fun k hk => (rxByte_loadRx s bytes k hk).symm) (by omega)

/-! ### One changed byte (R156) -/

/-- The checksum test written as one sum: body and checksum together XOR to 0 (R153). -/
theorem SoundMessage.xor_eq_zero {byte : Nat → Byte} {n : Nat} (h : SoundMessage byte n) :
    xorBytes (slice byte 2 n) = 0 := by
  obtain ⟨h4, -, -, -, hck⟩ := h
  obtain ⟨m, rfl⟩ : ∃ m, n = m + 1 := ⟨n - 1, by omega⟩
  rw [Nat.add_sub_cancel] at hck
  rw [slice_succ (by omega), xorBytes_append, hck]
  simp

/-- Two byte spaces that differ at one index of a range at most, and have the same XOR over it, agree there. -/
theorem eq_of_xorBytes_slice_eq {byte byte' : Nat → Byte} {i m j : Nat} (hi : i ≤ m) (hj : m < j)
    (hother : ∀ k, k ≠ m → byte k = byte' k)
    (hxor : xorBytes (slice byte i j) = xorBytes (slice byte' i j)) : byte m = byte' m := by
  induction hi using Nat.decreasingInduction with
  | self =>
    have hrest : slice byte (m + 1) j = slice byte' (m + 1) j :=
      slice_congr fun k hk _ => hother k (by omega)
    rw [slice_cons hj, slice_cons hj, hrest] at hxor
    simpa using hxor
  | of_succ i hi ih =>
    rw [slice_cons (byte := byte) (by omega), slice_cons (byte := byte') (by omega),
      hother i (by omega)] at hxor
    exact ih (by simpa using hxor)

/-- A sound message with one byte changed is not sound: the header byte is fixed, the length byte counts the
message, and any other byte enters the XOR once. -/
theorem SoundMessage.not_of_one_change {byte byte' : Nat → Byte} {n m : Nat}
    (h : SoundMessage byte n) (hm : m < n) (hother : ∀ k, k ≠ m → byte k = byte' k)
    (hne : byte m ≠ byte' m) : ¬SoundMessage byte' n := by
  intro h'
  have hxor := h.xor_eq_zero.trans h'.xor_eq_zero.symm
  obtain ⟨-, h0, -, hlen, -⟩ := h
  obtain ⟨-, h0', -, hlen', -⟩ := h'
  apply hne
  match m with
  | 0 => rw [h0, h0']
  | 1 => exact BitVec.eq_of_toNat_eq (by omega)
  | m + 2 => exact eq_of_xorBytes_slice_eq (by omega) hm hother hxor

/-- Flipping a bit changes a byte. -/
theorem xor_two_pow_ne (b : Byte) {k : Nat} (hk : k < 8) : b ^^^ BitVec.ofNat 8 (2 ^ k) ≠ b := by
  have hbit : ∀ k < 8, BitVec.ofNat 8 (2 ^ k) ≠ 0 := by decide
  simpa using hbit k hk

theorem byteAt_set_same {bytes : List Byte} {i : Nat} (hi : i < bytes.length) (b : Byte) :
    byteAt (bytes.set i b) i = b := by
  simp [byteAt, hi]

theorem byteAt_set_other (bytes : List Byte) {i k : Nat} (hne : k ≠ i) (b : Byte) :
    byteAt (bytes.set i b) k = byteAt bytes k := by
  simp [byteAt, hne.symm]

/-- Settles O30: the answer follows the acceptance test of the message received, and a flip is a change of one
byte. -/
theorem vchkDetectsEverySingleFlip : Obligations.VchkDetectsEverySingleFlip := by
  refine ⟨rfl, fun s hrun => ⟨exec_vchk_sound hrun, exec_vchk_unsound hrun⟩,
    fun s t u bytes i k hrun hi hk ht hone hu => ?_⟩
  rw [exec_rxmsg_running hrun, Host.Outcome.next.injEq] at ht hu
  subst ht hu
  obtain ⟨-, -, hhalted⟩ := s.receive_frame bytes
  have hsound := (soundMessage_receive_iff ..).1 (soundMessage_of_exec_vchk (hhalted.trans hrun) hone)
  obtain ⟨-, -, hhalted'⟩ :=
    s.receive_frame (bytes.set i (byteAt bytes i ^^^ BitVec.ofNat 8 (2 ^ k)))
  refine exec_vchk_unsound (hhalted'.trans hrun) ?_
  rw [soundMessage_receive_iff, List.length_set]
  refine hsound.not_of_one_change hi (fun j hj => (byteAt_set_other bytes hj _).symm) ?_
  rw [byteAt_set_same hi]
  exact (xor_two_pow_ne _ hk).symm

/-! ### The walk of DECODE (R162) -/

theorem endOf_lt (byte : Nat → Byte) : endOf byte < 258 := by
  have := (byte 1).isLt
  unfold endOf
  omega

/-- One turn of the loop of `DECODE` where the record reader reads a record: `DTLV` answers it, and the loop
goes on behind it. -/
theorem decodeLoop_of_tlv {s : State} {o : Nat} {r : TlvRead} (fuel : Nat)
    (hrun : s.halted = false) (hgood : structural s.rxByte s.rxLen.toNat = none)
    (hr : tlv s.rxByte (endOf s.rxByte) o = .ok r) :
    (decodeLoop (endOf s.rxByte) (fuel + 1) o s).2 =
      okResponse r.record.value (tlvWord r) [] ::
        (decodeLoop (endOf s.rxByte) fuel r.next
          (s.answer .host (okResponse r.record.value (tlvWord r) []))).2 := by
  have hend := endOf_lt s.rxByte
  obtain ⟨hnext, hle⟩ := tlv_bounds hr
  have hread : s.readRecord (BitVec.ofNat 32 o).toNat = .ok r := by
    rw [BitVec.toNat_ofNat, Nat.mod_eq_of_lt (by omega), s.readRecord_good_structure _ hgood, hr]
  have hoffset : ((okResponse r.record.value (tlvWord r) []).d1 >>> 16).toNat = r.next :=
    tlvWord_next (by omega)
  rw [decodeLoop_succ fuel (by omega) (issue_eq (exec_dtlv_ok hrun hread)), hoffset]
  exact congrArg Prod.snd (if_pos rfl)

/-- The loop of `DTLV` follows the walk of `RXMSG`: where the walk finds records, the loop, with fuel for that
many, fails nowhere and yields them. -/
theorem decodeLoop_of_walk {s : State} {fuel loopFuel o : Nat} {records : List Record}
    (hrun : s.halted = false) (hgood : structural s.rxByte s.rxLen.toNat = none)
    (ho : o ≤ endOf s.rxByte) (hfuel : endOf s.rxByte - o ≤ fuel)
    (hloop : records.length ≤ loopFuel)
    (hwalk : walk s.rxByte (endOf s.rxByte) fuel o = .ok records) :
    (∀ r ∈ (decodeLoop (endOf s.rxByte) loopFuel o s).2, r.st = .ok) ∧
      (decodeLoop (endOf s.rxByte) loopFuel o s).2.map recordOfResponse = records := by
  induction fuel generalizing s loopFuel o records with
  | zero =>
    obtain rfl : o = endOf s.rxByte := by omega
    rw [walk, Except.ok.injEq] at hwalk
    simp [← hwalk]
  | succ fuel ih =>
    obtain ⟨hend, rfl⟩ | ⟨hlt, r, rest, hr, hrest, rfl⟩ := walk_succ_eq_ok hwalk
    · obtain rfl : o = endOf s.rxByte := by omega
      simp
    · have hend := endOf_lt s.rxByte
      obtain ⟨hnext, hle⟩ := tlv_bounds hr
      obtain ⟨f, rfl⟩ := Nat.exists_eq_add_of_lt hloop
      rw [decodeLoop_of_tlv _ hrun hgood hr]
      obtain ⟨hok, hmap⟩ := ih (s := s.answer .host (okResponse r.record.value (tlvWord r) []))
        (loopFuel := rest.length + f) hrun hgood hle
        (show endOf s.rxByte - r.next ≤ fuel by omega) (by omega) hrest
      constructor
      · exact List.forall_mem_cons.2 ⟨rfl, hok⟩
      · rw [List.map_cons, recordOfResponse_tlvWord (by omega)]
        exact congrArg _ hmap

/-- The decode of what is in `RX` after a message is that of the message. -/
theorem State.receive_decodeRx (s : State) (bytes : List Byte) :
    (s.receive bytes).decodeRx = decodeMessage (byteAt bytes) bytes.length := by
  obtain ⟨hbyte, hlen, -⟩ := s.receive_frame bytes
  rw [State.decodeRx, hbyte, hlen]
  exact decodeRx_loadRx s bytes

/-- Settles O33: the message that `RXMSG` accepts is still in `RX`, so `DHDR` and `VCHK` accept it, and the loop
follows the walk that `RXMSG` made. -/
theorem walkYieldsTheFrameItem : Obligations.WalkYieldsTheFrameItem := by
  intro s t bytes hrun ht hok
  rw [exec_rxmsg_running hrun, Host.Outcome.next.injEq] at ht
  subst ht
  obtain ⟨-, -, hhalted⟩ := s.receive_frame bytes
  have hdecode := s.receive_decodeRx bytes
  rcases s.receive_cases bytes with ⟨ty, records, hmessage, hreceive⟩ | ⟨c, -, hreceive⟩
  case inr => simp [hreceive] at hok
  case inl =>
    have hrxOut : (s.receive bytes).rxOut = s.rxOut ++ [.frame ty records] := by rw [hreceive]
    generalize s.receive bytes = t at *
    rw [hmessage, State.decodeRx] at hdecode
    obtain ⟨hgood, hck, hrecords, rfl⟩ := (decodeMessage_eq_ok_iff ..).1 hdecode
    obtain ⟨hn, hstx, hlength, hlen⟩ := (structural_eq_none_iff ..).1 hgood
    have hcount := walk_length_le hrecords
    have hend := endOf_lt t.rxByte
    obtain ⟨hstatus, hmap⟩ := decodeLoop_of_walk (loopFuel := 85) (hhalted.trans hrun) hgood
      (by unfold endOf; omega) le_rfl (by omega) hrecords
    refine ⟨t.rxByte 2, t.rxByte 1, records, _, hrxOut,
      exec_dhdr_header (hhalted.trans hrun) (by omega) hstx hlength,
      exec_vchk_sound (hhalted.trans hrun) ((soundMessage_iff ..).2 ⟨hgood, hck⟩), rfl,
      hstatus, ?_, hmap⟩
    rw [← hmap, List.length_map] at hcount
    show (decodeLoop (endOf t.rxByte) 85 3 t).2.length ≤ 84
    omega

end Sys2Proof.Machine
end

section
/-! PROOFS. The packet builders (42_packet_builders.md): `BRC` and `BCFG` on a block that is not halted, and the
bytes of the RC frame and of the Config frame. -/

namespace Sys2Proof.Machine

theorem xorBytes_singleton (b : Byte) : xorBytes [b] = b := BitVec.xor_zero

/-! ### The RC frame (R181, R182) -/

/-- By the ranges of R37 no channel fits in one byte. -/
theorem State.channels_gt_one_byte {s : State} (h : s.channelInv = true) :
    0xFF < s.throttle.toNat ∧ 0xFF < s.roll.toNat ∧ 0xFF < s.aux1.toNat ∧ 0xFF < s.aux2.toNat := by
  have haux {c : Chan} (hc : c = Config.auxLow ∨ c = Config.auxHigh) : 0xFF < c.toNat := by
    rcases hc with rfl | rfl <;> decide
  simp only [State.channelInv, Bool.and_eq_true, decide_eq_true_eq] at h
  obtain ⟨⟨⟨⟨⟨⟨⟨hth, -⟩, hro, -⟩, ha1⟩, ha2⟩, -⟩, -⟩, -⟩ := h
  exact ⟨by omega, by omega, haux ha1, haux ha2⟩

/-- The size rule gives 2 to a channel that one byte does not hold (R95, R181). -/
theorem irec_channel (id : Byte) {c : Chan} (h : 0xFF < c.toNat) :
    irec id (c.setWidth 32) = [id, 2, c.extractLsb' 0 8, c.extractLsb' 8 8] := by
  have hc := c.isLt
  have hwide : (c.setWidth 32).toNat = c.toNat := BitVec.toNat_setWidth_of_le (by decide)
  have hbyte (k : Nat) (hk : k + 8 ≤ 16) :
      (c.setWidth 32).extractLsb' k 8 = c.extractLsb' k 8 := by
    apply BitVec.eq_of_toNat_eq
    rw [BitVec.extractLsb'_toNat, BitVec.extractLsb'_toNat, hwide]
  rw [irec_of_le_two_bytes id (by omega) (by omega), hbyte 0 (by decide), hbyte 8 (by decide)]

/-- R182 byte by byte; the fixed bytes of the body XOR to 0x67. -/
theorem encRC_eq {th ro a1 a2 : Chan} (hth : 0xFF < th.toNat) (hro : 0xFF < ro.toNat)
    (ha1 : 0xFF < a1.toNat) (ha2 : 0xFF < a2.toNat) (t : Word32) :
    encRC th ro a1 a2 t =
      [0x02, 0x17, 0x01,
        0x01, 0x02, th.extractLsb' 0 8, th.extractLsb' 8 8,
        0x00, 0x02, ro.extractLsb' 0 8, ro.extractLsb' 8 8,
        0x03, 0x02, a1.extractLsb' 0 8, a1.extractLsb' 8 8,
        0x04, 0x02, a2.extractLsb' 0 8, a2.extractLsb' 8 8,
        0x64, 0x04, t.extractLsb' 0 8, t.extractLsb' 8 8, t.extractLsb' 16 8, t.extractLsb' 24 8,
        0x67 ^^^ th.extractLsb' 0 8 ^^^ th.extractLsb' 8 8 ^^^
          ro.extractLsb' 0 8 ^^^ ro.extractLsb' 8 8 ^^^
          a1.extractLsb' 0 8 ^^^ a1.extractLsb' 8 8 ^^^
          a2.extractLsb' 0 8 ^^^ a2.extractLsb' 8 8 ^^^
          t.extractLsb' 0 8 ^^^ t.extractLsb' 8 8 ^^^ t.extractLsb' 16 8 ^^^ t.extractLsb' 24 8] := by
  have fixed : (0x67 : Byte) =
      Config.ftRc ^^^ (Config.idThrottle ^^^ 2) ^^^ (Config.idRoll ^^^ 2) ^^^ (Config.idAux1 ^^^ 2) ^^^
        (Config.idAux2 ^^^ 2) ^^^ (100 ^^^ 4) := rfl
  rw [encRC, rcRecords, irec_channel _ hth, irec_channel _ hro, irec_channel _ ha1,
    irec_channel _ ha2, trec_eq, fixed]
  simp only [frame, ↓xorBytes_singleton, xorBytes_cons, List.cons_append, List.nil_append]
  ac_rfl

theorem exec_brc (t : Word32) (s : State) : exec (.brc t) s = execBrc t s := rfl

theorem exec_brc_running {s : State} (hrun : s.halted = false) (t : Word32) :
    exec (.brc t) s =
      .next (s.answered .host .ok (BitVec.ofNat 32 (s.rcFrame t).length) 0 (s.rcFrame t)) := by
  rw [exec_brc, execBrc, unlessHalted_running hrun]
  rfl

/-- Settles O34: by R37 the size rule gives 2 to all four channels. -/
theorem brcReturnsTheRcFrame : Obligations.BrcReturnsTheRcFrame := by
  intro t
  refine ⟨decodeCommand_commandWord 0x30 0 t [], fun s hrun hinv => ?_⟩
  obtain ⟨hth, hro, ha1, ha2⟩ := State.channels_gt_one_byte hinv
  rw [exec_brc_running hrun, State.rcFrame, encRC_eq hth hro ha1 ha2]
  rfl

/-! ### The Config frame (R184, R185) -/

/-- R185 byte by byte; the fixed bytes of the body XOR to 0x06. -/
theorem encCFG_eq (p i d : Word32) :
    encCFG p i d =
      [0x02, 0x13, 0x02,
        0x01, 0x04, p.extractLsb' 0 8, p.extractLsb' 8 8, p.extractLsb' 16 8, p.extractLsb' 24 8,
        0x02, 0x04, i.extractLsb' 0 8, i.extractLsb' 8 8, i.extractLsb' 16 8, i.extractLsb' 24 8,
        0x03, 0x04, d.extractLsb' 0 8, d.extractLsb' 8 8, d.extractLsb' 16 8, d.extractLsb' 24 8,
        0x06 ^^^
          p.extractLsb' 0 8 ^^^ p.extractLsb' 8 8 ^^^ p.extractLsb' 16 8 ^^^ p.extractLsb' 24 8 ^^^
          i.extractLsb' 0 8 ^^^ i.extractLsb' 8 8 ^^^ i.extractLsb' 16 8 ^^^ i.extractLsb' 24 8 ^^^
          d.extractLsb' 0 8 ^^^ d.extractLsb' 8 8 ^^^ d.extractLsb' 16 8 ^^^
          d.extractLsb' 24 8] := by
  have fixed : (0x06 : Byte) =
      Config.ftCfg ^^^ (Config.idP ^^^ 4) ^^^ (Config.idI ^^^ 4) ^^^ (Config.idD ^^^ 4) := rfl
  rw [encCFG, cfgRecords, frec_eq, frec_eq, frec_eq, fixed]
  simp only [frame, ↓xorBytes_singleton, xorBytes_cons, List.cons_append, List.nil_append]
  ac_rfl

theorem exec_bcfg (s : State) : exec .bcfg s = execBcfg s := rfl

theorem exec_bcfg_running {s : State} (hrun : s.halted = false) :
    exec .bcfg s =
      .next (s.answered .host .ok (BitVec.ofNat 32 s.cfgFrame.length) 0 s.cfgFrame) := by
  rw [exec_bcfg, execBcfg, unlessHalted_running hrun]
  rfl

/-- Settles O35: a float record carries its pattern whatever it is. -/
theorem bcfgReturnsTheConfigFrame : Obligations.BcfgReturnsTheConfigFrame := by
  refine ⟨rfl, fun s hrun => ?_⟩
  rw [exec_bcfg_running hrun, State.cfgFrame, encCFG_eq]
  rfl

end Sys2Proof.Machine
end

section
/-! PROOFS. The input state machine (43_input_state_machine.md): the seven keys and `SETSPD` on a block that is
not halted, and the transitions of `MODE`. -/

namespace Sys2Proof.Machine

/-! ### MODE and the response that carries it (R25) -/

theorem auxLow_ne_auxHigh : (1000 : Chan) ≠ 2000 := by decide

theorem State.mode_eq_two_iff (s : State) : s.mode = 2 ↔ s.auto = true := by
  unfold State.mode
  split
  · simp [*]
  · split <;> simp [*]

theorem State.mode_eq_one_iff (s : State) : s.mode = 1 ↔ s.auto = false ∧ s.aux2 = 2000 := by
  unfold State.mode
  split
  · simp [*]
  · split <;> simp_all

theorem State.mode_eq_zero_iff (s : State) : s.mode = 0 ↔ s.auto = false ∧ s.aux2 ≠ 2000 := by
  unfold State.mode
  split
  · simp [*]
  · split <;> simp_all

theorem State.mode_cases (s : State) : s.mode = 0 ∨ s.mode = 1 ∨ s.mode = 2 := by
  unfold State.mode
  split
  · simp
  · split <;> simp

theorem State.answerMode_of_mode {s : State} {m : Word32} (h : s.mode = m) :
    s.answerMode = s.answered .host .ok m 0 [] := by
  rw [← h]
  rfl

/-! ### Throttle keys (R190, R191, R200, R201) -/

theorem exec_keydnThrUp_running {s : State} (hrun : s.halted = false) :
    exec .keydnThrUp s = .next (s.throttleKey (neutralMinus s.speedLimit)).answerMode := by
  rw [exec, execKeydnThrUp, unlessHalted_running hrun]

theorem exec_keydnThrDown_running {s : State} (hrun : s.halted = false) :
    exec .keydnThrDown s = .next (s.throttleKey (neutralPlus s.speedLimit)).answerMode := by
  rw [exec, execKeydnThrDown, unlessHalted_running hrun]

theorem exec_keyupThrUp_running {s : State} (hrun : s.halted = false) :
    exec .keyupThrUp s = .next (s.throttleKey 1500).answerMode := by
  rw [exec, execKeyupThrUp, unlessHalted_running hrun]
  rfl

theorem exec_keyupThrDown_running {s : State} (hrun : s.halted = false) :
    exec .keyupThrDown s = .next (s.throttleKey 1500).answerMode := by
  rw [exec, execKeyupThrDown, unlessHalted_running hrun]
  rfl

theorem State.answerMode_throttleKey_manual {s : State} (hauto : s.auto = false) (value : Chan) :
    (s.throttleKey value).answerMode = { s with throttle := value }.answered .host .ok s.mode 0 [] := by
  rw [State.throttleKey, if_neg (by simp [hauto])]
  rfl

theorem State.answerMode_throttleKey_auto {s : State} (hauto : s.auto = true) (value : Chan) :
    (s.throttleKey value).answerMode = s.answered .host .ok 2 0 [] := by
  rw [State.throttleKey, if_pos hauto, State.answerMode_of_mode (s.mode_eq_two_iff.2 hauto)]

/-- `1500 - S` and `1500 + S` are throttle and roll values of R37. -/
theorem neutral_deflection_bounds {limit : BitVec 9} (h : limit.toNat ≤ 500) :
    (1000 ≤ (neutralMinus limit).toNat ∧ (neutralMinus limit).toNat ≤ 1500) ∧
      (1500 ≤ (neutralPlus limit).toNat ∧ (neutralPlus limit).toNat ≤ 2000) := by
  rw [neutralMinus_toNat, neutralPlus_toNat]
  omega

/-- Settles O37: outside AUTO each key writes its value, in AUTO none does. -/
theorem throttleKeysActOutsideAuto : Obligations.ThrottleKeysActOutsideAuto := by
  refine ⟨rfl, rfl, rfl, rfl, fun s hrun => ?_⟩
  rw [exec_keydnThrUp_running hrun, exec_keydnThrDown_running hrun, exec_keyupThrUp_running hrun,
    exec_keyupThrDown_running hrun]
  constructor
  · intro hauto
    simp only [State.answerMode_throttleKey_manual hauto, and_true]
    refine ⟨neutralMinus s.speedLimit, neutralPlus s.speedLimit, neutralMinus_toNat _,
      neutralPlus_toNat _, rfl, rfl, fun hlimit => ?_⟩
    obtain ⟨⟨hup1, hup2⟩, hdown⟩ := neutral_deflection_bounds hlimit
    exact ⟨hup1, hup2, hdown⟩
  · intro hauto
    simp only [State.answerMode_throttleKey_auto hauto, and_self]

/-! ### Roll keys (R192, R193, R202, R203) -/

theorem exec_keydnRollLeft_running {s : State} (hrun : s.halted = false) :
    exec .keydnRollLeft s =
      .next ({ s with roll := neutralPlus s.speedLimit }.answered .host .ok s.mode 0 []) := by
  rw [exec, execKeydnRollLeft, unlessHalted_running hrun]
  rfl

theorem exec_keydnRollRight_running {s : State} (hrun : s.halted = false) :
    exec .keydnRollRight s =
      .next ({ s with roll := neutralMinus s.speedLimit }.answered .host .ok s.mode 0 []) := by
  rw [exec, execKeydnRollRight, unlessHalted_running hrun]
  rfl

theorem exec_keyupRollLeft_running {s : State} (hrun : s.halted = false) :
    exec .keyupRollLeft s = .next ({ s with roll := 1500 }.answered .host .ok s.mode 0 []) := by
  rw [exec, execKeyupRollLeft, unlessHalted_running hrun]
  rfl

theorem exec_keyupRollRight_running {s : State} (hrun : s.halted = false) :
    exec .keyupRollRight s = .next ({ s with roll := 1500 }.answered .host .ok s.mode 0 []) := by
  rw [exec, execKeyupRollRight, unlessHalted_running hrun]
  rfl

/-- Settles O38: each roll key writes its value without a test of the mode. -/
theorem rollKeysActInEveryMode : Obligations.RollKeysActInEveryMode := by
  refine ⟨rfl, rfl, rfl, rfl, fun s hrun => ⟨⟨neutralPlus s.speedLimit, neutralMinus s.speedLimit,
    neutralPlus_toNat _, neutralMinus_toNat _, exec_keydnRollLeft_running hrun,
    exec_keydnRollRight_running hrun, fun hlimit => ?_⟩, exec_keyupRollLeft_running hrun,
    exec_keyupRollRight_running hrun⟩⟩
  obtain ⟨hright, hleft1, hleft2⟩ := neutral_deflection_bounds hlimit
  exact ⟨hleft1, hleft2, hright⟩

/-! ### The momentary key (R194, R204) -/

theorem exec_keydnAux1_running {s : State} (hrun : s.halted = false) :
    exec .keydnAux1 s = .next ({ s with aux1 := 2000 }.answered .host .ok s.mode 0 []) := by
  rw [exec, execKeydnAux1, unlessHalted_running hrun]
  rfl

theorem exec_keyupAux1_running {s : State} (hrun : s.halted = false) :
    exec .keyupAux1 s = .next ({ s with aux1 := 1000 }.answered .host .ok s.mode 0 []) := by
  rw [exec, execKeyupAux1, unlessHalted_running hrun]
  rfl

/-- Settles O39: press and release each write their value without a test of the mode. -/
theorem auxOneIsMomentary : Obligations.AuxOneIsMomentary :=
  ⟨rfl, rfl, fun _ hrun => ⟨exec_keydnAux1_running hrun, exec_keyupAux1_running hrun⟩⟩

/-! ### The aux2 toggle (R195, R205) -/

theorem exec_keydnAux2_running {s : State} (hrun : s.halted = false) :
    exec .keydnAux2 s = .next s.pressAux2.answerMode := by
  rw [exec, execKeydnAux2, unlessHalted_running hrun]

theorem exec_keydnAux2_held {s : State} (hrun : s.halted = false) (hheld : s.heldAux2 = true) :
    exec .keydnAux2 s = .next (s.answered .host .ok s.mode 0 []) := by
  rw [exec_keydnAux2_running hrun, State.pressAux2, if_pos hheld, State.answerMode_of_mode rfl]

theorem exec_keydnAux2_auto {s : State} (hrun : s.halted = false) (hheld : s.heldAux2 = false)
    (hauto : s.auto = true) :
    exec .keydnAux2 s = .next ({ s with heldAux2 := true }.answered .host .ok 2 0 []) := by
  rw [exec_keydnAux2_running hrun, State.pressAux2, if_neg (by simp [hheld]), if_pos hauto,
    State.answerMode_of_mode (m := 2)]
  exact (State.mode_eq_two_iff _).2 hauto

theorem exec_keydnAux2_flip {s : State} (hrun : s.halted = false) (hheld : s.heldAux2 = false)
    (hauto : s.auto = false) :
    exec .keydnAux2 s =
      .next { s with heldAux2 := true, aux2 := flipAux s.aux2 }.answerMode := by
  rw [exec_keydnAux2_running hrun, State.pressAux2, if_neg (by simp [hheld]),
    if_neg (by simp [hauto])]

theorem exec_keydnAux2_high {s : State} (hrun : s.halted = false) (hheld : s.heldAux2 = false)
    (hauto : s.auto = false) (haux2 : s.aux2 = 2000) :
    exec .keydnAux2 s =
      .next ({ s with heldAux2 := true, aux2 := 1000 }.answered .host .ok 0 0 []) := by
  rw [exec_keydnAux2_flip hrun hheld hauto, flipAux, if_pos haux2,
    State.answerMode_of_mode (m := 0)]
  exact (State.mode_eq_zero_iff _).2 ⟨hauto, auxLow_ne_auxHigh⟩

theorem exec_keydnAux2_low {s : State} (hrun : s.halted = false) (hheld : s.heldAux2 = false)
    (hauto : s.auto = false) (haux2 : s.aux2 ≠ 2000) :
    exec .keydnAux2 s =
      .next ({ s with heldAux2 := true, aux2 := 2000 }.answered .host .ok 1 0 []) := by
  rw [exec_keydnAux2_flip hrun hheld hauto, flipAux, if_neg haux2,
    State.answerMode_of_mode (m := 1)]
  exact (State.mode_eq_one_iff _).2 ⟨hauto, rfl⟩

theorem exec_keyupAux2_running {s : State} (hrun : s.halted = false) :
    exec .keyupAux2 s = .next ({ s with heldAux2 := false }.answered .host .ok s.mode 0 []) := by
  rw [exec, execKeyupAux2, unlessHalted_running hrun]
  rfl

/-- Settles O40: a repeat, a press in AUTO, the two flips, and the release. -/
theorem auxTwoTogglesOnPress : Obligations.AuxTwoTogglesOnPress :=
  ⟨rfl, rfl, fun _ hrun => ⟨exec_keydnAux2_held hrun, exec_keydnAux2_auto hrun,
    exec_keydnAux2_high hrun, exec_keydnAux2_low hrun, exec_keyupAux2_running hrun⟩⟩

/-! ### The auto toggle (R196, R206) -/

theorem exec_keydnAuto_running {s : State} (hrun : s.halted = false) :
    exec .keydnAuto s = .next s.pressAuto.answerMode := by
  rw [exec, execKeydnAuto, unlessHalted_running hrun]

theorem exec_keydnAuto_held {s : State} (hrun : s.halted = false) (hheld : s.heldAuto = true) :
    exec .keydnAuto s = .next (s.answered .host .ok s.mode 0 []) := by
  rw [exec_keydnAuto_running hrun, State.pressAuto, if_pos hheld, State.answerMode_of_mode rfl]

theorem exec_keydnAuto_enter {s : State} (hrun : s.halted = false) (hheld : s.heldAuto = false)
    (hauto : s.auto = false) :
    exec .keydnAuto s =
      .next ({ s with
        heldAuto := true
        auto := true
        throttle := neutralMinus s.speedLimit
        aux2 := 2000 }.answered .host .ok 2 0 []) := by
  rw [exec_keydnAuto_running hrun, State.pressAuto, if_neg (by simp [hheld]),
    if_neg (by simp [hauto]), State.answerMode_of_mode (m := 2)]
  exact (State.mode_eq_two_iff _).2 rfl

theorem exec_keydnAuto_leave {s : State} (hrun : s.halted = false) (hheld : s.heldAuto = false)
    (hauto : s.auto = true) :
    exec .keydnAuto s =
      .next ({ s with
        heldAuto := true
        auto := false
        throttle := 1500
        aux2 := 1000 }.answered .host .ok 0 0 []) := by
  rw [exec_keydnAuto_running hrun, State.pressAuto, if_neg (by simp [hheld]), if_pos hauto,
    State.answerMode_of_mode (m := 0)]
  · rfl
  · exact (State.mode_eq_zero_iff _).2 ⟨rfl, auxLow_ne_auxHigh⟩

theorem exec_keyupAuto_running {s : State} (hrun : s.halted = false) :
    exec .keyupAuto s = .next ({ s with heldAuto := false }.answered .host .ok s.mode 0 []) := by
  rw [exec, execKeyupAuto, unlessHalted_running hrun]
  rfl

/-- Settles O41: a repeat, the entry, the exit, and the release. -/
theorem autoTogglesOnPress : Obligations.AutoTogglesOnPress :=
  ⟨rfl, rfl, fun s hrun => ⟨exec_keydnAuto_held hrun,
    fun hheld hauto => ⟨neutralMinus s.speedLimit, neutralMinus_toNat _,
      exec_keydnAuto_enter hrun hheld hauto⟩,
    exec_keydnAuto_leave hrun, exec_keyupAuto_running hrun⟩⟩

/-! ### The speed limit (R212) -/

theorem exec_setspd_running {s : State} (hrun : s.halted = false) (v : Word32) :
    exec (.setspd v) s =
      .next (if 500 < v.toNat then s.raiseRange .host
        else (s.setSpeedLimit (v.setWidth 9)).answerMode) := by
  rw [exec, execSetspd, unlessHalted_running hrun]

theorem exec_setspd_refused {s : State} (hrun : s.halted = false) {v : Word32}
    (hv : 500 < v.toNat) :
    exec (.setspd v) s = .next (s.answered .host .rangeError 0 0 []) := by
  rw [exec_setspd_running hrun, if_pos hv]
  rfl

theorem exec_setspd_manual {s : State} (hrun : s.halted = false) {v : Word32}
    (hv : v.toNat ≤ 500) (hauto : s.auto = false) :
    exec (.setspd v) s =
      .next ({ s with speedLimit := v.setWidth 9 }.answered .host .ok s.mode 0 []) := by
  rw [exec_setspd_running hrun, if_neg (Nat.not_lt.2 hv), State.setSpeedLimit,
    if_neg (by simp [hauto])]
  rfl

theorem exec_setspd_auto {s : State} (hrun : s.halted = false) {v : Word32}
    (hv : v.toNat ≤ 500) (hauto : s.auto = true) :
    exec (.setspd v) s =
      .next ({ s with
        speedLimit := v.setWidth 9
        throttle := neutralMinus (v.setWidth 9) }.answered .host .ok 2 0 []) := by
  rw [exec_setspd_running hrun, if_neg (Nat.not_lt.2 hv), State.setSpeedLimit, if_pos hauto,
    State.answerMode_of_mode (m := 2)]
  exact (State.mode_eq_two_iff _).2 hauto

/-- Settles O42: the refusal, and the limit with and without the throttle. -/
theorem setspdSetsTheLimit : Obligations.SetspdSetsTheLimit := by
  intro v
  refine ⟨decodeCommand_commandWord 0x42 0 v [], fun s hrun => ⟨exec_setspd_refused hrun, fun hv => ?_⟩⟩
  have hlimit : (v.setWidth 9).toNat = v.toNat := by
    rw [BitVec.toNat_setWidth, Nat.mod_eq_of_lt (by omega)]
  refine ⟨v.setWidth 9, hlimit, exec_setspd_manual hrun hv, fun hauto =>
    ⟨neutralMinus (v.setWidth 9), ?_, exec_setspd_auto hrun hv hauto⟩⟩
  rw [neutralMinus_toNat, hlimit]

/-! ### What leaves the input state machine alone (R38) -/

/-- The registers of the input state machine (R21, R23, R24). -/
def State.inputRegs (s : State) : Chan × Chan × Chan × Chan × BitVec 9 × Bool × Bool × Bool :=
  (s.throttle, s.roll, s.aux1, s.aux2, s.speedLimit, s.auto, s.heldAuto, s.heldAux2)

/-- `MODE` is a projection of the registers of the input state machine (R25). -/
theorem State.mode_congr {s t : State} (h : t.inputRegs = s.inputRegs) : t.mode = s.mode := by
  simp only [State.inputRegs, Prod.mk.injEq] at h
  obtain ⟨-, -, -, haux2, -, hauto, -⟩ := h
  rw [State.mode, State.mode, haux2, hauto]

theorem State.append_inputRegs (s : State) (record : List Byte) :
    (s.append record).inputRegs = s.inputRegs := by
  obtain ⟨-, h⟩ | ⟨-, -, h⟩ | ⟨-, -, h⟩ := s.append_cases record <;> rw [h] <;> rfl

theorem State.receive_inputRegs (s : State) (bytes : List Byte) :
    (s.receive bytes).inputRegs = s.inputRegs := by
  obtain ⟨_, _, -, h⟩ | ⟨_, -, h⟩ := s.receive_cases bytes <;> rw [h] <;> rfl

theorem State.tick_inputRegs (s : State) (nowMs : Word32) (txReady : Bool) :
    (s.tick nowMs txReady).inputRegs = s.inputRegs := by
  obtain ⟨-, -, -, h⟩ | ⟨-, h⟩ := s.tick_cases nowMs txReady
  · rw [h]
    rfl
  · rw [h]

theorem State.pulse_inputRegs (s : State) (nowMs : Word32) (txReady : Bool) :
    (s.pulse nowMs txReady).inputRegs = s.inputRegs := by
  obtain ⟨-, h⟩ | ⟨-, -, h⟩ | ⟨-, -, h⟩ := s.pulse_cases nowMs txReady <;> rw [h]
  · exact State.tick_inputRegs _ nowMs txReady
  · rfl

/-- What the fault response and the body of an operation both leave alone, the operation leaves alone. -/
theorem unlessHalted_keeps {α : Type} (view : State → α) {s t : State} {a : Agent}
    {body : State → State} (h : unlessHalted a s body = .next t)
    (hfault : view (s.respondFault a) = view s) (hbody : view (body s) = view s) :
    view t = view s := by
  obtain ⟨-, rfl⟩ | ⟨-, rfl⟩ := unlessHalted_cases h
  · exact hfault
  · exact hbody

/-- Only the operations of the input state machine write its registers. -/
theorem exec_inputRegs {i : Instr} {s t : State} (hi : isInputOp i = false)
    (h : exec i s = .next t) : t.inputRegs = s.inputRegs := by
  cases i <;> rw [exec] at h
  case beginFrame | sealFrame | dhdr | dtlv | tmrstart | sendcfg =>
    refine unlessHalted_keeps State.inputRegs h rfl ?_
    repeat' split
    all_goals rfl
  case appi | appf | appt => exact unlessHalted_keeps State.inputRegs h rfl (s.append_inputRegs _)
  case vchk | brc | bcfg | tmrcancel | pause | resume | connect | disconnect | setp | seti | setd =>
    exact unlessHalted_keeps State.inputRegs h rfl rfl
  case mspulse => exact unlessHalted_keeps State.inputRegs h rfl (s.pulse_inputRegs _ _)
  case rdreg =>
    cases h
    rfl
  case rxmsg | rc | config | rcThrottle | rcRoll | rcAux1 | rcAux2 | rcTimestamp | cfgP | cfgI | cfgD =>
    exact unlessHalted_keeps State.inputRegs h rfl (s.receive_inputRegs _)
  all_goals cases hi

/-! ### The transitions of MODE (R214) -/

theorem State.throttleKey_mode (s : State) (value : Chan) : (s.throttleKey value).mode = s.mode := by
  obtain ⟨-, h⟩ | ⟨-, h⟩ := s.throttleKey_cases value
  · rw [h]
  · rw [h]
    rfl

theorem State.setSpeedLimit_mode (s : State) (limit : BitVec 9) :
    (s.setSpeedLimit limit).mode = s.mode := by
  obtain ⟨-, h⟩ | ⟨-, h⟩ := s.setSpeedLimit_cases limit <;> (rw [h]; rfl)

/-- Every operation but the two presses leaves `MODE` as it is: of the input operations none of the others
writes `AUX2` or `auto`. -/
theorem exec_mode {i : Instr} {s t : State} (haux2 : i ≠ .keydnAux2) (hauto : i ≠ .keydnAuto)
    (h : exec i s = .next t) : t.mode = s.mode := by
  cases hi : isInputOp i
  case false => exact State.mode_congr (exec_inputRegs hi h)
  cases i <;> rw [exec] at h
  case true.keydnAux2 => exact absurd rfl haux2
  case true.keydnAuto => exact absurd rfl hauto
  case true.keydnThrUp | true.keydnThrDown | true.keyupThrUp | true.keyupThrDown =>
    exact unlessHalted_keeps State.mode h rfl (s.throttleKey_mode _)
  case true.keydnRollLeft | true.keydnRollRight | true.keydnAux1 | true.keyupRollLeft
      | true.keyupRollRight | true.keyupAux1 | true.keyupAux2 | true.keyupAuto =>
    exact unlessHalted_keeps State.mode h rfl rfl
  case true.setspd =>
    refine unlessHalted_keeps State.mode h rfl ?_
    split
    · rfl
    · exact s.setSpeedLimit_mode _
  all_goals cases hi

/-- The rows of R214's table for a press of the aux2 toggle. -/
theorem exec_keydnAux2_transitions {s t : State} (hrun : s.halted = false)
    (hheld : s.heldAux2 = false) (h : exec .keydnAux2 s = .next t) :
    (s.mode = 0 → t.mode = 1 ∧ t.aux2 = 2000) ∧ (s.mode = 1 → t.mode = 0 ∧ t.aux2 = 1000) ∧
      (s.mode = 2 → t.mode = 2 ∧ t.heldAux2 = true) := by
  refine ⟨fun hmode => ?_, fun hmode => ?_, fun hmode => ?_⟩
  · obtain ⟨hauto, haux2⟩ := s.mode_eq_zero_iff.1 hmode
    rw [exec_keydnAux2_low hrun hheld hauto haux2, Host.Outcome.next.injEq] at h
    subst h
    exact ⟨(State.mode_eq_one_iff _).2 ⟨hauto, rfl⟩, rfl⟩
  · obtain ⟨hauto, haux2⟩ := s.mode_eq_one_iff.1 hmode
    rw [exec_keydnAux2_high hrun hheld hauto haux2, Host.Outcome.next.injEq] at h
    subst h
    exact ⟨(State.mode_eq_zero_iff _).2 ⟨hauto, auxLow_ne_auxHigh⟩, rfl⟩
  · have hauto := s.mode_eq_two_iff.1 hmode
    rw [exec_keydnAux2_auto hrun hheld hauto, Host.Outcome.next.injEq] at h
    subst h
    exact ⟨(State.mode_eq_two_iff _).2 hauto, rfl⟩

/-- The rows of R214's table for a press of the auto toggle. -/
theorem exec_keydnAuto_transitions {s t : State} (hrun : s.halted = false)
    (hheld : s.heldAuto = false) (h : exec .keydnAuto s = .next t) :
    (s.mode ≠ 2 → t.mode = 2 ∧ t.throttle.toNat = 1500 - s.speedLimit.toNat ∧ t.aux2 = 2000) ∧
      (s.mode = 2 → t.mode = 0 ∧ t.throttle = 1500 ∧ t.aux2 = 1000) := by
  refine ⟨fun hmode => ?_, fun hmode => ?_⟩
  · have hauto : s.auto = false := Bool.eq_false_iff.2 fun hauto => hmode (s.mode_eq_two_iff.2 hauto)
    rw [exec_keydnAuto_enter hrun hheld hauto, Host.Outcome.next.injEq] at h
    subst h
    exact ⟨(State.mode_eq_two_iff _).2 rfl, neutralMinus_toNat _, rfl⟩
  · have hauto := s.mode_eq_two_iff.1 hmode
    rw [exec_keydnAuto_leave hrun hheld hauto, Host.Outcome.next.injEq] at h
    subst h
    exact ⟨(State.mode_eq_zero_iff _).2 ⟨rfl, auxLow_ne_auxHigh⟩, rfl, rfl⟩

/-- A press of the aux2 toggle that changes `MODE` is not a repeat, and goes between MANUAL and SEMI_AUTO. -/
theorem exec_keydnAux2_mode {s t : State} (h : exec .keydnAux2 s = .next t) :
    t.mode = s.mode ∨
      (s.heldAux2 = false ∧ ((s.mode = 0 ∧ t.mode = 1) ∨ (s.mode = 1 ∧ t.mode = 0))) := by
  cases hrun : s.halted
  case true =>
    rw [exec, execKeydnAux2, unlessHalted_halted hrun, Host.Outcome.next.injEq] at h
    subst h
    exact .inl rfl
  cases hheld : s.heldAux2
  case true =>
    rw [exec_keydnAux2_held hrun hheld, Host.Outcome.next.injEq] at h
    subst h
    exact .inl rfl
  obtain ⟨hmanual, hsemi, hautoMode⟩ := exec_keydnAux2_transitions hrun hheld h
  obtain hm | hm | hm := s.mode_cases
  · exact .inr ⟨rfl, .inl ⟨hm, (hmanual hm).1⟩⟩
  · exact .inr ⟨rfl, .inr ⟨hm, (hsemi hm).1⟩⟩
  · exact .inl ((hautoMode hm).1.trans hm.symm)

/-- A press of the auto toggle that changes `MODE` is not a repeat, and goes to AUTO, or from AUTO to MANUAL. -/
theorem exec_keydnAuto_mode {s t : State} (h : exec .keydnAuto s = .next t) :
    t.mode = s.mode ∨
      (s.heldAuto = false ∧
        ((s.mode = 0 ∧ t.mode = 2) ∨ (s.mode = 1 ∧ t.mode = 2) ∨ (s.mode = 2 ∧ t.mode = 0))) := by
  cases hrun : s.halted
  case true =>
    rw [exec, execKeydnAuto, unlessHalted_halted hrun, Host.Outcome.next.injEq] at h
    subst h
    exact .inl rfl
  cases hheld : s.heldAuto
  case true =>
    rw [exec_keydnAuto_held hrun hheld, Host.Outcome.next.injEq] at h
    subst h
    exact .inl rfl
  obtain ⟨henter, hleave⟩ := exec_keydnAuto_transitions hrun hheld h
  obtain hm | hm | hm := s.mode_cases
  · exact .inr ⟨rfl, .inl ⟨hm, (henter (by simp [hm])).1⟩⟩
  · exact .inr ⟨rfl, .inr (.inl ⟨hm, (henter (by simp [hm])).1⟩)⟩
  · exact .inr ⟨rfl, .inr (.inr ⟨hm, (hleave hm).1⟩)⟩

/-- Settles O43: the two presses one by one, every other operation by what it leaves alone. -/
theorem modeChangesOnlyByTheToggles : Obligations.ModeChangesOnlyByTheToggles := by
  intro i s t _ h
  refine ⟨?_, ?_, ?_⟩
  · by_cases haux2 : i = .keydnAux2
    · subst haux2
      exact (exec_keydnAux2_mode h).imp_right fun hpress => .inl ⟨rfl, hpress⟩
    · by_cases hauto : i = .keydnAuto
      · subst hauto
        exact (exec_keydnAuto_mode h).imp_right fun hpress => .inr ⟨rfl, hpress⟩
      · exact .inl (exec_mode haux2 hauto h)
  · rintro hrun rfl hheld
    exact exec_keydnAux2_transitions hrun hheld h
  · rintro hrun rfl hheld
    exact exec_keydnAuto_transitions hrun hheld h

end Sys2Proof.Machine
end

section
/-! PROOFS. The transmission scheduler and the config path (44_scheduler.md): the timer, the two bits, the pulse and
`SENDCFG` on a block that is not halted, then what a whole sequence of operations pushes to `tx_out`. -/

namespace Sys2Proof.Machine

/-! ### The timer (R220, R221) -/

theorem exec_tmrstart_stopped {s : State} (hrun : s.halted = false) (hstop : s.run = false) :
    exec .tmrstart s =
      .next ({ s with run := true, tickCnt := 0 }.answered .host .ok 0 0 []) := by
  rw [exec, execTmrstart, unlessHalted_running hrun, if_neg (by simp [hstop])]
  rfl

theorem exec_tmrstart_running {s : State} (hrun : s.halted = false) (htimer : s.run = true) :
    exec .tmrstart s = .next (s.answered .host .ok 0 0 []) := by
  rw [exec, execTmrstart, unlessHalted_running hrun, if_pos htimer]
  rfl

theorem exec_tmrcancel_running {s : State} (hrun : s.halted = false) :
    exec .tmrcancel s =
      .next ({ s with run := false, tickCnt := 0 }.answered .host .ok 0 0 []) := by
  rw [exec, execTmrcancel, unlessHalted_running hrun]
  rfl

/-- Settles O44: a stopped timer starts at 0, a running one goes on counting, and the cancel stops either. -/
theorem timerStartsAndCancels : Obligations.TimerStartsAndCancels :=
  ⟨rfl, rfl, fun _ hrun => ⟨exec_tmrstart_stopped hrun, exec_tmrstart_running hrun,
    exec_tmrcancel_running hrun⟩⟩

/-! ### The pause and connection bits (R222 to R225) -/

theorem exec_pause_running {s : State} (hrun : s.halted = false) :
    exec .pause s = .next ({ s with paused := true }.answered .host .ok 0 0 []) := by
  rw [exec, execPause, unlessHalted_running hrun]
  rfl

theorem exec_resume_running {s : State} (hrun : s.halted = false) :
    exec .resume s = .next ({ s with paused := false }.answered .host .ok 0 0 []) := by
  rw [exec, execResume, unlessHalted_running hrun]
  rfl

theorem exec_connect_running {s : State} (hrun : s.halted = false) :
    exec .connect s = .next ({ s with connected := true }.answered .transport .ok 0 0 []) := by
  rw [exec, execConnect, unlessHalted_running hrun]
  rfl

theorem exec_disconnect_running {s : State} (hrun : s.halted = false) :
    exec .disconnect s = .next ({ s with connected := false }.answered .transport .ok 0 0 []) := by
  rw [exec, execDisconnect, unlessHalted_running hrun]
  rfl

/-- Settles O45: each of the four writes its bit without a test of the others. -/
theorem pauseAndConnectionBits : Obligations.PauseAndConnectionBits :=
  ⟨rfl, rfl, rfl, rfl, fun _ hrun => ⟨exec_pause_running hrun, exec_resume_running hrun,
    exec_connect_running hrun, exec_disconnect_running hrun⟩⟩

/-! ### The gains (R230 to R232) -/

theorem exec_setp_running {s : State} (hrun : s.halted = false) (v : Word32) :
    exec (.setp v) s = .next ({ s with cfgP := v }.answered .host .ok 0 0 []) := by
  rw [exec, execSetp, unlessHalted_running hrun]
  rfl

theorem exec_seti_running {s : State} (hrun : s.halted = false) (v : Word32) :
    exec (.seti v) s = .next ({ s with cfgI := v }.answered .host .ok 0 0 []) := by
  rw [exec, execSeti, unlessHalted_running hrun]
  rfl

theorem exec_setd_running {s : State} (hrun : s.halted = false) (v : Word32) :
    exec (.setd v) s = .next ({ s with cfgD := v }.answered .host .ok 0 0 []) := by
  rw [exec, execSetd, unlessHalted_running hrun]
  rfl

/-- Settles O50: each of the three writes its register without a test of the pattern. -/
theorem gainsAreStoredUnchanged : Obligations.GainsAreStoredUnchanged := fun v =>
  ⟨decodeCommand_commandWord 0x58 0 v [], decodeCommand_commandWord 0x59 0 v [],
    decodeCommand_commandWord 0x5A 0 v [], fun _ hrun => ⟨exec_setp_running hrun v,
      exec_seti_running hrun v, exec_setd_running hrun v⟩⟩

/-! ### SENDCFG (R233) -/

/-- Bit 32 of the word is `tx_ready` (R111, R115 (d)). -/
theorem decodeTxReady_ite (ready : Bool) (i : Bool → Instr) :
    decodeTxReady (if ready then 1 else 0) i = .ok (i ready) := by
  cases ready <;> rfl

theorem encCFG_length (p i d : Word32) : (encCFG p i d).length = 22 := by
  rw [encCFG_eq]
  rfl

theorem exec_sendcfg_sent {s : State} (hrun : s.halted = false) (hconn : s.connected = true) :
    exec (.sendcfg true) s =
      .next ({ s with txOut := s.txOut ++ [encCFG s.cfgP s.cfgI s.cfgD] }.answered .host .ok 22 0
        (encCFG s.cfgP s.cfgI s.cfgD)) := by
  rw [exec, execSendcfg, unlessHalted_running hrun, if_pos hconn, if_pos rfl, State.cfgFrame,
    encCFG_length]
  rfl

theorem exec_sendcfg_dropped {s : State} (hrun : s.halted = false) (hconn : s.connected = true) :
    exec (.sendcfg false) s = .next (s.answered .host .dropped 0 0 []) := by
  rw [exec, execSendcfg, unlessHalted_running hrun, if_pos hconn, if_neg Bool.false_ne_true]
  rfl

theorem exec_sendcfg_disconnected {s : State} (hrun : s.halted = false)
    (hconn : s.connected = false) (ready : Bool) :
    exec (.sendcfg ready) s = .next (s.answered .host .transportUnavailable 0 0 []) := by
  rw [exec, execSendcfg, unlessHalted_running hrun, if_neg (by simp [hconn])]
  rfl

/-- Settles O51: the test of the connection, then that of `tx_ready`. -/
theorem sendcfgSendsTheGains : Obligations.SendcfgSendsTheGains :=
  ⟨fun ready => (decodeCommand_commandWord 0x5B _ 0 []).trans (decodeTxReady_ite ready .sendcfg),
    fun _ hrun => ⟨exec_sendcfg_sent hrun, exec_sendcfg_dropped hrun,
      exec_sendcfg_disconnected hrun⟩⟩

/-! ### The pulse and the tick (R226, R227) -/

theorem exec_mspulse_running {s : State} (hrun : s.halted = false) (now : Word32) (ready : Bool) :
    exec (.mspulse now ready) s =
      .next ((s.pulse now ready).answered .timeBase .ok 0 0 []) := by
  rw [exec, execMspulse, unlessHalted_running hrun]
  rfl

theorem State.pulse_stopped {s : State} (hstop : s.run = false) (now : Word32) (ready : Bool) :
    s.pulse now ready = s := by
  rw [State.pulse, if_neg (by simp [hstop])]

theorem State.pulse_counts {s : State} (htimer : s.run = true) (hcount : s.tickCnt.toNat ≠ 49)
    (now : Word32) (ready : Bool) :
    s.pulse now ready = { s with tickCnt := s.tickCnt + 1 } := by
  rw [State.pulse, if_pos htimer]
  exact if_neg hcount

theorem State.pulse_ticks {s : State} (htimer : s.run = true) (hcount : s.tickCnt.toNat = 49)
    (now : Word32) (ready : Bool) :
    s.pulse now ready = { s with tickCnt := 0 }.tick now ready := by
  rw [State.pulse, if_pos htimer]
  exact if_pos hcount

theorem State.tick_sends {s : State} (hconn : s.connected = true) (hpaused : s.paused = false)
    (now : Word32) :
    s.tick now true =
      { s with txOut := s.txOut ++ [encRC s.throttle s.roll s.aux1 s.aux2 now] } := by
  rw [State.tick, if_pos (by simp [hconn, hpaused]), if_pos rfl]
  rfl

theorem State.tick_silent {s : State} {ready : Bool}
    (h : ¬(s.connected = true ∧ s.paused = false ∧ ready = true)) (now : Word32) :
    s.tick now ready = s := by
  obtain ⟨hconn, hpaused, hready, -⟩ | ⟨-, htick⟩ := s.tick_cases now ready
  · exact absurd ⟨hconn, hpaused, hready⟩ h
  · exact htick

theorem exec_mspulse_counts {s : State} (hrun : s.halted = false) (htimer : s.run = true)
    (hcount : s.tickCnt.toNat ≠ 49) (now : Word32) (ready : Bool) :
    exec (.mspulse now ready) s =
      .next ({ s with tickCnt := s.tickCnt + 1 }.answered .timeBase .ok 0 0 []) := by
  rw [exec_mspulse_running hrun, State.pulse_counts htimer hcount]

theorem exec_mspulse_sends {s : State} (hrun : s.halted = false) (htimer : s.run = true)
    (hcount : s.tickCnt.toNat = 49) (hconn : s.connected = true) (hpaused : s.paused = false)
    (now : Word32) :
    exec (.mspulse now true) s =
      .next ({ s with
        tickCnt := 0
        txOut := s.txOut ++ [encRC s.throttle s.roll s.aux1 s.aux2 now] }.answered
          .timeBase .ok 0 0 []) := by
  rw [exec_mspulse_running hrun, State.pulse_ticks htimer hcount,
    State.tick_sends (s := { s with tickCnt := 0 }) hconn hpaused]

/-- Settles O46: a stopped timer, a count below the tick, and a tick that sends or does not. -/
theorem pulsesCountAndTick : Obligations.PulsesCountAndTick := by
  intro now ready
  refine ⟨(decodeCommand_commandWord 0x56 _ now []).trans (decodeTxReady_ite ready (.mspulse now)),
    fun s hrun => ⟨fun hstop => ?_, fun htimer hcount => exec_mspulse_counts hrun htimer hcount now ready,
      fun htimer hcount => ⟨?_, fun hsilent => ?_⟩⟩⟩
  · rw [exec_mspulse_running hrun, State.pulse_stopped hstop]
  · rintro hconn hpaused rfl
    exact exec_mspulse_sends hrun htimer hcount hconn hpaused now
  · rw [exec_mspulse_running hrun, State.pulse_ticks htimer hcount,
      State.tick_silent (s := { s with tickCnt := 0 }) hsilent]

/-! ### What the input operations leave alone (R38) -/

/-- What a pulse reads apart from the channels, and what it writes: the halt, `SCHED`, `TICKCNT` and `tx_out`. -/
def State.schedule (s : State) : Bool × Bool × Bool × Bool × BitVec 6 × List (List Byte) :=
  (s.halted, s.run, s.paused, s.connected, s.tickCnt, s.txOut)

theorem State.throttleKey_schedule (s : State) (value : Chan) :
    (s.throttleKey value).schedule = s.schedule := by
  obtain ⟨-, h⟩ | ⟨-, h⟩ := s.throttleKey_cases value
  · rw [h]
  · rw [h]
    rfl

theorem State.pressAux2_schedule (s : State) : s.pressAux2.schedule = s.schedule := by
  obtain ⟨-, h⟩ | ⟨-, -, h⟩ | ⟨-, -, -, h⟩ | ⟨-, -, -, h⟩ := s.pressAux2_cases <;> rw [h] <;> rfl

theorem State.pressAuto_schedule (s : State) : s.pressAuto.schedule = s.schedule := by
  obtain ⟨-, h⟩ | ⟨-, -, h⟩ | ⟨-, -, h⟩ := s.pressAuto_cases <;> rw [h] <;> rfl

theorem State.setSpeedLimit_schedule (s : State) (limit : BitVec 9) :
    (s.setSpeedLimit limit).schedule = s.schedule := by
  obtain ⟨-, h⟩ | ⟨-, h⟩ := s.setSpeedLimit_cases limit <;> rw [h] <;> rfl

/-- No operation of the input state machine halts the block or touches the scheduler. -/
theorem exec_inputOp_schedule {i : Instr} {s t : State} (hi : isInputOp i = true)
    (h : exec i s = .next t) : t.schedule = s.schedule := by
  cases i <;> rw [exec] at h
  case keydnThrUp | keydnThrDown | keyupThrUp | keyupThrDown =>
    exact unlessHalted_keeps State.schedule h rfl (s.throttleKey_schedule _)
  case keydnRollLeft | keydnRollRight | keydnAux1 | keyupRollLeft | keyupRollRight | keyupAux1
      | keyupAux2 | keyupAuto =>
    exact unlessHalted_keeps State.schedule h rfl rfl
  case keydnAux2 => exact unlessHalted_keeps State.schedule h rfl s.pressAux2_schedule
  case keydnAuto => exact unlessHalted_keeps State.schedule h rfl s.pressAuto_schedule
  case setspd =>
    refine unlessHalted_keeps State.schedule h rfl ?_
    split
    · rfl
    · exact s.setSpeedLimit_schedule _
  all_goals cases hi

/-! ### Sequences of operations (R70) -/

theorem unlessHalted_next (a : Agent) (s : State) (body : State → State) :
    ∃ t, unlessHalted a s body = .next t := by
  cases hh : s.halted
  · exact ⟨_, unlessHalted_running hh a body⟩
  · exact ⟨_, unlessHalted_halted hh a body⟩

/-- No operation stops the block (R260). -/
theorem exec_next (i : Instr) (s : State) : ∃ t, exec i s = .next t := by
  cases i <;> rw [exec]
  case rdreg => exact ⟨_, rfl⟩
  all_goals exact unlessHalted_next _ _ _

theorem execAll_append {is : List Instr} {s t : State} (h : execAll is s = .next t)
    (js : List Instr) : execAll (is ++ js) s = execAll js t := by
  induction is generalizing s with
  | nil =>
    cases h
    rfl
  | cons i is ih =>
    obtain ⟨u, hu⟩ := exec_next i s
    rw [execAll, hu] at h
    rw [List.cons_append, execAll, hu]
    exact ih h

theorem execAll_cons {i : Instr} {s t : State} (h : exec i s = .next t) (is : List Instr) :
    execAll (i :: is) s = execAll is t := by
  rw [execAll, h]

/-- What holds before a sequence and is kept by each of its operations holds after it; `P` may speak of the
operations done so far. -/
theorem execAll_induction {is : List Instr} {s : State} (P : List Instr → State → Prop)
    (hnil : P [] s)
    (hstep : ∀ done i t u, i ∈ is → P done t → exec i t = .next u → P (done ++ [i]) u) :
    ∃ u, execAll is s = .next u ∧ P is u := by
  induction is using List.reverseRecOn with
  | nil => exact ⟨s, rfl, hnil⟩
  | append_singleton is i ih =>
    obtain ⟨t, ht, hP⟩ := ih fun done j t u hj =>
      hstep done j t u (List.mem_append_left _ hj)
    obtain ⟨u, hu⟩ := exec_next i t
    refine ⟨u, ?_, hstep is i t u (by simp) hP hu⟩
    rw [execAll_append ht, execAll_cons hu, execAll]

/-! ### A stopped timer sends nothing (R221) -/

/-- Whether the timer runs, and what was pushed to `tx_out`. -/
def State.sending (s : State) : Bool × List (List Byte) := (s.run, s.txOut)

theorem State.append_sending (s : State) (record : List Byte) :
    (s.append record).sending = s.sending := by
  obtain ⟨-, h⟩ | ⟨-, -, h⟩ | ⟨-, -, h⟩ := s.append_cases record <;> rw [h] <;> rfl

theorem State.receive_sending (s : State) (bytes : List Byte) :
    (s.receive bytes).sending = s.sending := by
  obtain ⟨_, _, -, h⟩ | ⟨_, -, h⟩ := s.receive_cases bytes <;> rw [h] <;> rfl

theorem State.sending_of_schedule {s t : State} (h : t.schedule = s.schedule) :
    t.sending = s.sending := by
  simp only [State.schedule, Prod.mk.injEq] at h
  obtain ⟨-, hrun, -, -, -, htx⟩ := h
  rw [State.sending, State.sending, hrun, htx]

/-- While the timer is stopped, only `TMRSTART` starts it and only `SENDCFG` sends: a pulse changes nothing. -/
theorem exec_stopped_sending {i : Instr} {s t : State} (hstop : s.run = false)
    (hstart : i ≠ .tmrstart) (hsend : ∀ ready, i ≠ .sendcfg ready) (h : exec i s = .next t) :
    t.sending = s.sending := by
  cases hi : isInputOp i
  case true => exact State.sending_of_schedule (exec_inputOp_schedule hi h)
  cases i <;> rw [exec] at h
  case false.tmrstart => exact absurd rfl hstart
  case false.sendcfg ready => exact absurd rfl (hsend ready)
  case false.mspulse now ready =>
    refine unlessHalted_keeps State.sending h rfl ?_
    rw [State.pulse_stopped hstop]
    rfl
  case false.tmrcancel =>
    refine unlessHalted_keeps State.sending h rfl ?_
    exact congrArg (·, s.txOut) hstop.symm
  case false.beginFrame | false.sealFrame | false.dhdr | false.dtlv =>
    refine unlessHalted_keeps State.sending h rfl ?_
    repeat' split
    all_goals rfl
  case false.appi | false.appf | false.appt =>
    exact unlessHalted_keeps State.sending h rfl (s.append_sending _)
  case false.vchk | false.brc | false.bcfg | false.pause | false.resume | false.connect
      | false.disconnect | false.setp | false.seti | false.setd =>
    exact unlessHalted_keeps State.sending h rfl rfl
  case false.rdreg =>
    cases h
    rfl
  case false.rxmsg | false.rc | false.config | false.rcThrottle | false.rcRoll | false.rcAux1
      | false.rcAux2 | false.rcTimestamp | false.cfgP | false.cfgI | false.cfgD =>
    exact unlessHalted_keeps State.sending h rfl (s.receive_sending _)
  all_goals cases hi

/-- Settles O47: the cancel stops the timer, and every operation after it leaves it stopped and sends nothing. -/
theorem noSendAfterCancel : Obligations.NoSendAfterCancel := by
  refine fun s hrun => ⟨exec_tmrcancel_running hrun, fun is his => ?_⟩
  rw [execAll_cons (exec_tmrcancel_running hrun)]
  refine execAll_induction (fun _ u => u.txOut = s.txOut ∧ u.run = false) ⟨rfl, rfl⟩ ?_
  rintro done i t u hi ⟨htx, hstop⟩ hu
  obtain ⟨hstart, hfalse, htrue⟩ := his i hi
  have hkeeps := exec_stopped_sending hstop hstart (Bool.forall_bool.2 ⟨hfalse, htrue⟩) hu
  simp only [State.sending, Prod.mk.injEq] at hkeeps
  obtain ⟨hrun', htx'⟩ := hkeeps
  exact ⟨htx'.trans htx, hrun'.trans hstop⟩

/-! ### One frame every 50 pulses (R228) -/

/-- The set-up of Scenario C at any phase: a tick of this block sends when the transport is ready. -/
structure State.Ticking (s : State) : Prop where
  running : s.halted = false
  timer : s.run = true
  connected : s.connected = true
  unpaused : s.paused = false
  count_lt : s.tickCnt.toNat < 50

/-- What `n` pulses from `s` leave in `u`: the same set-up, the count at its phase, one frame for every 50 pulses
since the count was 0, after those already pushed. -/
structure State.AfterPulses (s : State) (n : Nat) (u : State) : Prop where
  ticking : u.Ticking
  count : u.tickCnt.toNat = (s.tickCnt.toNat + n) % 50
  sent : u.txOut.length = s.txOut.length + (s.tickCnt.toNat + n) / 50
  kept : s.txOut <+: u.txOut

theorem State.Ticking.afterPulses_zero {s : State} (h : s.Ticking) : s.AfterPulses 0 s :=
  have hlt := h.count_lt
  ⟨h, by omega, by omega, List.prefix_rfl⟩

/-- The operations of Scenario C: input operations, and pulses with the transport ready. -/
def isScenarioOp (i : Instr) : Prop := isInputOp i = true ∨ ∃ now, i = .mspulse now true

theorem State.AfterPulses.of_schedule_eq {s t u : State} {n : Nat} (h : s.AfterPulses n t)
    (hu : u.schedule = t.schedule) : s.AfterPulses n u := by
  obtain ⟨⟨hrun, htimer, hconn, hpaused, hlt⟩, hcount, hsent, hkept⟩ := h
  simp only [State.schedule, Prod.mk.injEq] at hu
  obtain ⟨hurun, hutimer, hupaused, huconn, hucount, hutx⟩ := hu
  exact ⟨⟨hurun.trans hrun, hutimer.trans htimer, huconn.trans hconn, hupaused.trans hpaused,
    hucount ▸ hlt⟩, hucount ▸ hcount, hutx ▸ hsent, hutx ▸ hkept⟩

/-- One more pulse: the count goes up, or wraps as one frame is sent. -/
theorem State.AfterPulses.mspulse {s t u : State} {n : Nat} {now : Word32} (h : s.AfterPulses n t)
    (hu : exec (.mspulse now true) t = .next u) : s.AfterPulses (n + 1) u := by
  obtain ⟨⟨hrun, htimer, hconn, hpaused, hlt⟩, hcount, hsent, hkept⟩ := h
  by_cases hphase : t.tickCnt.toNat = 49
  · rw [exec_mspulse_sends hrun htimer hphase hconn hpaused, Host.Outcome.next.injEq] at hu
    subst hu
    refine ⟨⟨hrun, htimer, hconn, hpaused, Nat.zero_lt_succ _⟩, ?_, ?_, hkept.trans (List.prefix_append _ _)⟩
    · show 0 = _
      omega
    · simp only [State.answered, List.length_append, List.length_singleton]
      omega
  · rw [exec_mspulse_counts hrun htimer hphase, Host.Outcome.next.injEq] at hu
    subst hu
    have hnext : (t.tickCnt + 1).toNat = t.tickCnt.toNat + 1 := by bv_omega
    refine ⟨⟨hrun, htimer, hconn, hpaused, ?_⟩, ?_, ?_, hkept⟩
    · exact hnext ▸ (by omega)
    · exact hnext.trans (by omega)
    · exact hsent.trans (by omega)

theorem pulsesIn_append (is js : List Instr) : pulsesIn (is ++ js) = pulsesIn is + pulsesIn js :=
  List.countP_append

theorem pulsesIn_inputOp {i : Instr} (hi : isInputOp i = true) : pulsesIn [i] = 0 := by
  cases i
  case keydnThrUp | keydnThrDown | keydnRollLeft | keydnRollRight | keydnAux1 | keydnAux2 | keydnAuto
      | keyupThrUp | keyupThrDown | keyupRollLeft | keyupRollRight | keyupAux1 | keyupAux2 | keyupAuto
      | setspd => rfl
  all_goals cases hi

/-- Every sequence of operations of Scenario C, by the number of its pulses. -/
theorem execAll_afterPulses {s : State} (hs : s.Ticking) {is : List Instr}
    (his : ∀ i ∈ is, isScenarioOp i) :
    ∃ u, execAll is s = .next u ∧ s.AfterPulses (pulsesIn is) u := by
  refine execAll_induction (fun done u => s.AfterPulses (pulsesIn done) u) hs.afterPulses_zero ?_
  intro done i t u hi ht hu
  rw [pulsesIn_append]
  obtain hinput | ⟨now, rfl⟩ := his i hi
  · rw [pulsesIn_inputOp hinput]
    exact ht.of_schedule_eq (exec_inputOp_schedule hinput hu)
  · exact ht.mspulse hu

/-- The frame of a tick is the first pushed after those that stood there, and stays at its place. -/
theorem execAll_tick_frame {v : State} (hv : v.Ticking) (hphase : v.tickCnt.toNat = 49)
    (now : Word32) {after : List Instr} (hafter : ∀ i ∈ after, isScenarioOp i) :
    ∃ u, execAll (.mspulse now true :: after) v = .next u ∧
      u.txOut[v.txOut.length]? = some (encRC v.throttle v.roll v.aux1 v.aux2 now) := by
  have htick := exec_mspulse_sends hv.running hv.timer hphase hv.connected hv.unpaused now
  obtain ⟨u, hu, hpulses⟩ :=
    execAll_afterPulses (hv.afterPulses_zero.mspulse htick).ticking hafter
  obtain ⟨later, hlater⟩ := hpulses.kept
  refine ⟨u, (execAll_cons htick after).trans hu, ?_⟩
  rw [← hlater]
  simp [State.answered]

/-- Settles O48: the count of frames by the pulses of the whole sequence, each frame by cutting the sequence at its
tick. -/
theorem oneFrameEveryFiftyPulses : Obligations.OneFrameEveryFiftyPulses := by
  intro s is hrun htimer hconn hpaused hzero his
  have hcount : s.tickCnt.toNat = 0 := congrArg BitVec.toNat hzero
  have hs : s.Ticking := ⟨hrun, htimer, hconn, hpaused, by omega⟩
  obtain ⟨u, hu, hpulses⟩ := execAll_afterPulses hs his
  obtain ⟨-, hphase, hsent, hkept⟩ := hpulses
  rw [hcount, Nat.zero_add] at hphase hsent
  refine ⟨u, hu, hsent, hphase, hkept, ?_⟩
  rintro before after now rfl h49
  obtain ⟨v, hv, hbefore⟩ := execAll_afterPulses hs fun i hi => his i (List.mem_append_left _ hi)
  obtain ⟨hticking, hvphase, hvsent, -⟩ := hbefore
  rw [hcount, Nat.zero_add] at hvphase hvsent
  obtain ⟨w, hw, hframe⟩ := execAll_tick_frame hticking (hvphase.trans h49) now fun i hi =>
    his i (List.mem_append_right _ (List.mem_cons_of_mem _ hi))
  rw [execAll_append hv, hw, Host.Outcome.next.injEq] at hu
  subst hu
  exact ⟨v, hv, hvsent ▸ hframe⟩

end Sys2Proof.Machine
end

section
/-! PROOFS. Register access (45_register_access.md): the words that `RDREG` answers, field by field. -/

namespace Sys2Proof.Machine

/-! ### RDREG (R250) -/

theorem decode_rdreg (r : Reg) :
    decode (.command (commandWord 0x60 r.number 0) []) = .ok (.rdreg r) := by
  simp [decode, decodeFields]

theorem exec_rdreg (r : Reg) (s : State) :
    exec (.rdreg r) s = .next (s.answered .host .ok (s.readReg r) 0 []) := rfl

/-! ### A field above the bits of the fields below it -/

theorem flagBit_eq_shiftLeft (b : Bool) (k : Nat) :
    flagBit b k = BitVec.ofNat 32 b.toNat <<< k := by
  cases b
  · simp [flagBit]
  · rfl

theorem flagBit_zero (b : Bool) : flagBit b 0 = BitVec.ofNat 32 b.toNat := by
  rw [flagBit_eq_shiftLeft, BitVec.shiftLeft_zero]

theorem ofNat_or_flagBit {low k : Nat} (b : Bool) (h : low < 2 ^ k) :
    BitVec.ofNat 32 low ||| flagBit b k = BitVec.ofNat 32 (low + 2 ^ k * b.toNat) := by
  rw [flagBit_eq_shiftLeft, ofNat_or_shiftLeft _ h]

theorem ofNat_or_byte {low k : Nat} (b : Byte) (h : low < 2 ^ k) :
    BitVec.ofNat 32 low ||| b.setWidth 32 <<< k = BitVec.ofNat 32 (low + 2 ^ k * b.toNat) := by
  rw [← BitVec.ofNat_toNat, ofNat_or_shiftLeft _ h]

/-- Two flags in bits 0 and 1, the low bits of `RXSTAT` and of every word of three flags (R32). -/
theorem twoFlags_eq (a b : Bool) :
    flagBit a 0 ||| flagBit b 1 = BitVec.ofNat 32 (a.toNat + 2 * b.toNat) := by
  rw [flagBit_zero, ofNat_or_flagBit b a.toNat_lt, Nat.pow_one]

/-- Three flags in bits 0 to 2, the shape of `ISMFLAGS`, `SCHED` and `FAULT` (R24, R26, R33). -/
theorem threeFlags_toNat (a b c : Bool) :
    (flagBit a 0 ||| flagBit b 1 ||| flagBit c 2).toNat = a.toNat + 2 * b.toNat + 4 * c.toNat := by
  have ha := a.toNat_lt
  have hb := b.toNat_lt
  have hc := c.toNat_lt
  rw [twoFlags_eq, ofNat_or_flagBit c (by omega), BitVec.toNat_ofNat, Nat.mod_eq_of_lt (by omega)]
  rfl

/-! ### The registers of several fields (R24 to R26, R29, R32, R33) -/

theorem State.mode_toNat (s : State) :
    s.mode.toNat = if s.auto then 2 else if s.aux2 = 2000 then 1 else 0 := by
  rw [State.mode, apply_ite BitVec.toNat, apply_ite BitVec.toNat]
  rfl

theorem State.ismFlagsWord_toNat (s : State) :
    s.ismFlagsWord.toNat = s.auto.toNat + 2 * s.heldAuto.toNat + 4 * s.heldAux2.toNat :=
  threeFlags_toNat _ _ _

theorem State.schedWord_toNat (s : State) :
    s.schedWord.toNat = s.run.toNat + 2 * s.paused.toNat + 4 * s.connected.toNat :=
  threeFlags_toNat _ _ _

theorem State.faultWord_toNat (s : State) :
    s.faultWord.toNat = s.fReentrant.toNat + 2 * s.fNotOpen.toNat + 4 * s.fIllegal.toNat :=
  threeFlags_toNat _ _ _

theorem State.encStatWord_toNat (s : State) :
    s.encStatWord.toNat = s.encOpen.toNat + 256 * s.wcur.toNat := by
  have hopen := s.encOpen.toNat_lt
  have hwcur := s.wcur.isLt
  rw [State.encStatWord, flagBit_zero, ofNat_or_byte s.wcur (by omega), BitVec.toNat_ofNat,
    Nat.mod_eq_of_lt (by omega)]
  rfl

theorem State.rxStatWord_toNat (s : State) :
    s.rxStatWord.toNat = s.rxLoaded.toNat + 2 * s.rxOk.toNat +
      256 * (causeCode s.rxCause).toNat + 65536 * s.rxFtype.toNat := by
  have hloaded := s.rxLoaded.toNat_lt
  have hok := s.rxOk.toNat_lt
  have hcause := (causeCode s.rxCause).isLt
  have hftype := s.rxFtype.isLt
  rw [State.rxStatWord, twoFlags_eq, ofNat_or_byte (causeCode s.rxCause) (by omega),
    ofNat_or_byte s.rxFtype (by omega), BitVec.toNat_ofNat, Nat.mod_eq_of_lt (by omega)]
  rfl

/-! ### Every register -/

/-- Settles O52: `RDREG` has no halt test, a register of one field is zero-extended, and one of several fields is
the sum of its fields at their places. -/
theorem rdregReadsEveryRegister : Obligations.RdregReadsEveryRegister := by
  refine ⟨decode_rdreg, fun s => ⟨fun r => exec_rdreg r s, ?throttle, ?roll, ?aux1, ?aux2, s.mode_toNat,
    ?speedLimit, s.ismFlagsWord_toNat, rfl, rfl, rfl, s.schedWord_toNat, ?tickCnt,
    s.encStatWord_toNat, s.rxStatWord_toNat, ?rxLen, s.faultWord_toNat⟩⟩
  case throttle | roll | aux1 | aux2 | speedLimit | tickCnt | rxLen =>
    exact BitVec.toNat_setWidth_of_le (by decide)

end Sys2Proof.Machine
end

section
/-! PROOFS. Exceptions (60_exceptions.md): what a halted block does with an operation, an illegal word and a step. -/

namespace Sys2Proof.Machine

/-! ### The common prologue (R270) -/

/-- Every operation but `RDREG` is a body under the prologue of R270, which answers to the operation's issuer. -/
theorem exec_eq_unlessHalted {i : Instr} (hi : ∀ r, i ≠ .rdreg r) (s : State) :
    ∃ body, exec i s = unlessHalted (issuerOf i) s body := by
  cases i <;> rw [exec]
  case rdreg r => exact absurd rfl (hi r)
  all_goals exact ⟨_, Eq.refl (unlessHalted _ s _)⟩

theorem exec_halted {i : Instr} {s : State} (hhalt : s.halted = true) (hi : ∀ r, i ≠ .rdreg r) :
    exec i s = .next (s.answered (issuerOf i) .fault s.faultWord 0 []) := by
  obtain ⟨body, hbody⟩ := exec_eq_unlessHalted hi s
  rw [hbody, unlessHalted_halted hhalt, State.respondFault_eq]
  rfl

/-- No operation clears a fault bit of a halted block. -/
theorem exec_keeps_halted {i : Instr} {s t : State} (hhalt : s.halted = true)
    (h : exec i s = .next t) : t.halted = true := by
  by_cases hi : ∃ r, i = .rdreg r
  · obtain ⟨r, rfl⟩ := hi
    rw [exec_rdreg, Host.Outcome.next.injEq] at h
    subst h
    exact hhalt
  · rw [exec_halted hhalt (not_exists.1 hi), Host.Outcome.next.injEq] at h
    subst h
    exact hhalt

/-! ### Illegal words (R115) and the step of a halted block (R268) -/

theorem step_illegal {s : State} {st : Stimulus} {rest : List Event} {e : Reject}
    (hin : s.inputs = .op st :: rest) (hdecode : decode st = .error e) :
    step s = .next (illegalWord st { s with inputs := rest }) := by
  simp only [step, fetch, hin, hdecode]

theorem illegalWord_halted (st : Stimulus) (s : State) : (illegalWord st s).halted = true :=
  s.setFault_halted .illegal

/-- Only reset takes a halted block out of the halt. -/
theorem step_keeps_halted {s t : State} (hhalt : s.halted = true)
    (hin : s.inputs.head? ≠ some .reset) (h : step s = .next t) : t.halted = true := by
  obtain ⟨-, rfl⟩ | ⟨rest, hreset, -⟩ | ⟨st, rest, i, -, -, hexec⟩ | ⟨st, rest, e, -, -, rfl⟩ :=
    step_cases h
  case inl => exact hhalt
  case inr.inl => exact absurd (congrArg List.head? hreset) hin
  case inr.inr.inl => exact exec_keeps_halted (s := { s with inputs := rest }) hhalt hexec
  case inr.inr.inr => exact illegalWord_halted st _

/-- Settles O11: the prologue refuses every operation but `RDREG`, which has none; an illegal word is tested before
the halt (R270); and the step by what its event is. -/
theorem haltedBlockOnlyAnswers : Obligations.HaltedBlockOnlyAnswers := by
  refine fun s hhalt => ⟨fun i hi => exec_halted hhalt hi, fun r => exec_rdreg r s, ?illegal,
    fun t hin h => step_keeps_halted hhalt hin h⟩
  case illegal =>
    intro st rest e hin hdecode
    exact ⟨_, step_illegal hin hdecode, rfl, rfl⟩

end Sys2Proof.Machine
end

section
/-! PROOFS. Presented bits and instructions (30_encoding.md): the encoder and the decoder of command
words, wire frames and records invert each other, and the illegal words are those of R115. -/

namespace Sys2Proof.Machine

/-! ### Operand fields that decode (R112, R114, R40) -/

theorem requireZero_eq_ok_iff {zero : Bool} {i j : Instr} :
    requireZero zero i = .ok j ↔ zero = true ∧ i = j := by
  cases zero <;> simp [requireZero]

theorem requireZero_eq_error_iff {zero : Bool} {i : Instr} :
    (∃ e, requireZero zero i = .error e) ↔ zero = false := by
  cases zero <;> simp [requireZero]

theorem decodeTxReady_txReadyField (ready : Bool) (i : Bool → Instr) :
    decodeTxReady (txReadyField ready) i = .ok (i ready) := decodeTxReady_ite ready i

/-- A `tx_ready` operand that decodes is the field of the bit it decodes to. -/
theorem decodeTxReady_eq_ok_iff {a : Byte} {i : Bool → Instr} {j : Instr} :
    decodeTxReady a i = .ok j ↔ ∃ ready, a = txReadyField ready ∧ i ready = j := by
  constructor
  · intro h
    unfold decodeTxReady at h
    split at h
    · exact ⟨false, rfl, by simpa using h⟩
    · exact ⟨true, rfl, by simpa using h⟩
    · cases h
  · rintro ⟨ready, rfl, rfl⟩
    exact decodeTxReady_txReadyField ready i

theorem ofNumber_eq_some_iff {n : Byte} {r : Reg} : Reg.ofNumber n = some r ↔ n = r.number := by
  constructor
  · intro h
    unfold Reg.ofNumber at h
    split at h
    case h_17 => cases h
    all_goals
      cases h
      rfl
  · rintro rfl
    exact ofNumber_number r

/-! ### Encoded, then decoded -/

theorem decodeFrame_rc (length : Byte) (tail : List Byte) :
    decodeFrame (Config.stx :: length :: Config.ftRc :: tail) = .rc length tail := rfl

theorem decodeFrame_config (length : Byte) (tail : List Byte) :
    decodeFrame (Config.stx :: length :: Config.ftCfg :: tail) = .config length tail := rfl

/-- A whole record of an RC frame that selects a row decodes to it. -/
theorem decodeRecord_rc {id size : Byte} {value : List Byte} {i : Instr}
    (hfits : recordFits size value = true) (hrow : decodeRcRecord id size value = some i) :
    decodeRecord Config.ftRc (id :: size :: value) = i := by
  simp [decodeRecord, decodeRecordRow, hfits, hrow]

/-- A whole record of a Config frame that selects a row decodes to it. -/
theorem decodeRecord_cfg {id size : Byte} {value : List Byte} {i : Instr}
    (hfits : recordFits size value = true) (hrow : decodeCfgRecord id size value = some i) :
    decodeRecord Config.ftCfg (id :: size :: value) = i := by
  simp [decodeRecord, decodeRecordRow, hfits, hrow]

theorem recordFits_leBytes_four (v : Word32) : recordFits 4 (leBytes 4 v) = true := by
  simp [recordFits]

theorem decodeRecord_cfg_frec {id : Byte} {v : Word32} {i : Instr}
    (hrow : decodeCfgRecord id 4 (leBytes 4 v) = some i) :
    decodeRecord Config.ftCfg (frec id v) = i :=
  decodeRecord_cfg (recordFits_leBytes_four v) hrow

/-- Settles O1: a command word by its three fields, a wire frame and a record by the bytes that select
the row. -/
theorem decodeInvertsEncode : Obligations.DecodeInvertsEncode := by
  intro i hwf
  cases i
  case rxmsg bytes =>
    have hlen : bytes.length < 2 ^ 32 := by simpa [Instr.wf] using hwf
    simpa [encode, decode, decodeFields] using hlen
  case mspulse nowMs txReady =>
    exact (decodeCommand_commandWord 0x56 _ nowMs []).trans (decodeTxReady_txReadyField txReady _)
  case sendcfg txReady =>
    exact (decodeCommand_commandWord 0x5B _ 0 []).trans (decodeTxReady_txReadyField txReady _)
  case rdreg reg => exact decode_rdreg reg
  case rc length tail => exact congrArg _ (decodeFrame_rc length tail)
  case config length tail => exact congrArg _ (decodeFrame_config length tail)
  case rcThrottle | rcRoll | rcAux1 | rcAux2 => exact congrArg _ (decodeRecord_rc hwf rfl)
  case rcTimestamp v =>
    exact congrArg _ (decodeRecord_rc (recordFits_leBytes_four v) (by simp [decodeRcRecord]))
  case cfgP | cfgI | cfgD => exact congrArg _ (decodeRecord_cfg_frec (by simp [decodeCfgRecord]))
  all_goals exact decodeCommand_commandWord _ _ _ []

/-- Settles O5: each line by evaluation. -/
theorem specWordsDecode : Obligations.SpecWordsDecode := by
  unfold Obligations.SpecWordsDecode
  decide

/-! ### Decoded, then encoded -/

/-- A key code that decodes to a press is that key's (R112). -/
theorem encode_of_decodeKeyDown {a : Byte} {i : Instr} (h : decodeKeyDown a = .ok i) :
    encode i = commandOf 0x40 a 0 := by
  unfold decodeKeyDown at h
  split at h
  case h_8 => cases h
  all_goals
    cases h
    rfl

/-- A key code that decodes to a release is that key's (R112). -/
theorem encode_of_decodeKeyUp {a : Byte} {i : Instr} (h : decodeKeyUp a = .ok i) :
    encode i = commandOf 0x41 a 0 := by
  unfold decodeKeyUp at h
  split at h
  case h_8 => cases h
  all_goals
    cases h
    rfl

/-- The fields of a command word that decodes are the fields of the instruction's encoding, and the
message bytes beside it are those of an `RXMSG` or are not looked at (R114; log 19). -/
theorem encode_of_decodeFields {op a : Byte} {v : Word32} {bytes : List Byte} {i : Instr}
    (h : decodeFields op a v bytes = .ok i) :
    encode i = .command (commandWord op a v) (if op = 0x2F then bytes else []) := by
  unfold decodeFields at h
  split at h
  case h_9 =>
    split_ifs at h with ha hv
    cases h
    rw [if_pos (show (0x2F#8 : Byte) = 0x2F from rfl), beq_iff_eq.1 ha, encode, ← hv, BitVec.ofNat_toNat,
      BitVec.setWidth_eq]
    rfl
  case h_12 =>
    split_ifs at h with hv
    rw [beq_iff_eq.1 hv]
    exact encode_of_decodeKeyDown h
  case h_13 =>
    split_ifs at h with hv
    rw [beq_iff_eq.1 hv]
    exact encode_of_decodeKeyUp h
  case h_21 =>
    obtain ⟨ready, rfl, rfl⟩ := decodeTxReady_eq_ok_iff.1 h
    rfl
  case h_25 =>
    split_ifs at h with hv
    obtain ⟨ready, rfl, rfl⟩ := decodeTxReady_eq_ok_iff.1 h
    rw [beq_iff_eq.1 hv]
    rfl
  case h_26 =>
    split_ifs at h with hv
    split at h
    case h_1 r hr =>
      cases h
      rw [beq_iff_eq.1 hv, ofNumber_eq_some_iff.1 hr]
      rfl
    case h_2 => cases h
  case h_27 => cases h
  case h_2 | h_3 =>
    cases h
    rfl
  all_goals
    obtain ⟨hzero, rfl⟩ := requireZero_eq_ok_iff.1 h
    simp only [Bool.and_eq_true, beq_iff_eq] at hzero
    simp only [hzero]
    rfl

/-- Settles O2: the word is its three fields, and those are the encoding's. -/
theorem encodeInvertsDecodeOnCommands : Obligations.EncodeInvertsDecodeOnCommands := by
  intro w bytes i hbytes h
  have hencode := encode_of_decodeFields h
  rw [commandWord_of_fields] at hencode
  rw [hencode]
  split
  · rfl
  · next hop => rw [hbytes.resolve_right hop]

/-! ### The illegal words (R115) -/

theorem decodeTxReady_eq_error_iff {a : Byte} {i : Bool → Instr} :
    (∃ e, decodeTxReady a i = .error e) ↔ a.extractLsb' 1 7 ≠ 0 := by
  have hbits : a.extractLsb' 1 7 ≠ 0 ↔ a ≠ 0 ∧ a ≠ 1 := by
    revert a
    decide
  rw [hbits]
  unfold decodeTxReady
  split <;> simp_all

theorem gt_six_iff_ne {a : Byte} :
    6 < a.toNat ↔ a ≠ 0 ∧ a ≠ 1 ∧ a ≠ 2 ∧ a ≠ 3 ∧ a ≠ 4 ∧ a ≠ 5 ∧ a ≠ 6 := by
  revert a
  decide

theorem decodeKeyDown_eq_error_iff {a : Byte} :
    (∃ e, decodeKeyDown a = .error e) ↔ 6 < a.toNat := by
  rw [gt_six_iff_ne]
  unfold decodeKeyDown
  split <;> simp_all

theorem decodeKeyUp_eq_error_iff {a : Byte} :
    (∃ e, decodeKeyUp a = .error e) ↔ 6 < a.toNat := by
  rw [gt_six_iff_ne]
  unfold decodeKeyUp
  split <;> simp_all

/-- The operation codes that R111 assigns. -/
def assignedOps : List Byte :=
  [0x10, 0x11, 0x12, 0x13, 0x14, 0x20, 0x21, 0x22, 0x2F, 0x30, 0x31, 0x40, 0x41, 0x42, 0x50, 0x51, 0x52,
    0x53, 0x54, 0x55, 0x56, 0x58, 0x59, 0x5A, 0x5B, 0x60]

/-- The operation codes whose operand `a` must be zero (R111). -/
def zeroAOps : List Byte :=
  [0x13, 0x14, 0x20, 0x21, 0x22, 0x2F, 0x30, 0x31, 0x42, 0x50, 0x51, 0x52, 0x53, 0x54, 0x55, 0x58, 0x59,
    0x5A]

/-- The operation codes whose operand `v` must be zero (R111). -/
def zeroVOps : List Byte :=
  [0x10, 0x14, 0x20, 0x21, 0x31, 0x40, 0x41, 0x50, 0x51, 0x52, 0x53, 0x54, 0x55, 0x5B, 0x60]

/-- The assigned register numbers (R40). -/
def assignedRegs : List Byte :=
  [0x00, 0x01, 0x02, 0x03, 0x04, 0x05, 0x06, 0x08, 0x09, 0x0A, 0x10, 0x11, 0x18, 0x20, 0x21, 0x30]

theorem ofNumber_eq_none_iff {a : Byte} : Reg.ofNumber a = none ↔ a ∉ assignedRegs := by
  revert a
  decide

/-- The conditions (a) to (f) of R115 on the fields of a command word and the bytes beside it. -/
def IllegalFields (op a : Byte) (v : Word32) (bytes : List Byte) : Prop :=
  op ∉ assignedOps ∨
  (op ∈ zeroAOps ∧ a ≠ 0) ∨
  (op ∈ zeroVOps ∧ v ≠ 0) ∨
  ((op = 0x40 ∨ op = 0x41) ∧ 6 < a.toNat) ∨
  ((op = 0x56 ∨ op = 0x5B) ∧ a.extractLsb' 1 7 ≠ 0) ∨
  (op = 0x60 ∧ a ∉ assignedRegs) ∨
  (op = 0x2F ∧ v.toNat ≠ bytes.length)

/-- Each operation code of R111 by the operands it admits; every other code by (a). -/
theorem decodeFields_eq_error_iff (op a : Byte) (v : Word32) (bytes : List Byte) :
    (∃ e, decodeFields op a v bytes = .error e) ↔ IllegalFields op a v bytes := by
  unfold decodeFields IllegalFields
  split
  case h_26 =>
    rw [← ofNumber_eq_none_iff]
    by_cases hv : v = 0#32 <;> cases Reg.ofNumber a <;> simp [assignedOps, zeroAOps, zeroVOps, hv]
  all_goals simp only [assignedOps, zeroAOps, zeroVOps]
  case h_2 | h_3 => simp
  case h_9 =>
    by_cases ha : a = 0#8 <;> by_cases hv : v.toNat = bytes.length <;> simp [ha, hv]
  case h_12 =>
    by_cases hv : v = 0#32 <;> simp [hv, decodeKeyDown_eq_error_iff]
  case h_13 =>
    by_cases hv : v = 0#32 <;> simp [hv, decodeKeyUp_eq_error_iff]
  case h_21 => simp [decodeTxReady_eq_error_iff]
  case h_25 =>
    by_cases hv : v = 0#32 <;> simp [hv, decodeTxReady_eq_error_iff]
  case h_27 => simp_all
  all_goals simp [requireZero_eq_error_iff, imp_iff_not_or]

/-- Bits 39:33 of the word are the upper seven bits of `a` (R110). -/
theorem extractLsb'_33_eq (w : Command) : w.extractLsb' 33 7 = (aField w).extractLsb' 1 7 := by
  apply BitVec.eq_of_toNat_eq
  rw [BitVec.extractLsb'_toNat, BitVec.extractLsb'_toNat, aField_toNat, Nat.shiftRight_eq_div_pow,
    Nat.shiftRight_eq_div_pow]
  omega

/-- Settles O3: the word by its fields, and the step of an illegal word by `illegalWord`. -/
theorem illegalWordsFault : Obligations.IllegalWordsFault := by
  refine ⟨fun w bytes => ?_, fun s w bytes rest e hin hdecode => step_illegal hin hdecode⟩
  rw [extractLsb'_33_eq]
  exact decodeFields_eq_error_iff ..

/-! ### The CMD rows of the opcode table (R122) -/

/-- Every instruction's presented bits select its own row. -/
theorem selected_encode (i : Instr) : Laws.EncodesItsRow.Selected (mnemonicOf i) (encode i) :=
  match i with
  | .beginFrame type => Laws.EncodesItsRow.beginFrame type
  | .appi id value => Laws.EncodesItsRow.appi id value
  | .appf id pattern => Laws.EncodesItsRow.appf id pattern
  | .appt value => Laws.EncodesItsRow.appt value
  | .sealFrame => Laws.EncodesItsRow.sealFrame
  | .dhdr => Laws.EncodesItsRow.dhdr
  | .vchk => Laws.EncodesItsRow.vchk
  | .dtlv offset => Laws.EncodesItsRow.dtlv offset
  | .rxmsg bytes => Laws.EncodesItsRow.rxmsg bytes
  | .brc nowMs => Laws.EncodesItsRow.brc nowMs
  | .bcfg => Laws.EncodesItsRow.bcfg
  | .keydnThrUp => Laws.EncodesItsRow.keydnThrUp
  | .keydnThrDown => Laws.EncodesItsRow.keydnThrDown
  | .keydnRollLeft => Laws.EncodesItsRow.keydnRollLeft
  | .keydnRollRight => Laws.EncodesItsRow.keydnRollRight
  | .keydnAux1 => Laws.EncodesItsRow.keydnAux1
  | .keydnAux2 => Laws.EncodesItsRow.keydnAux2
  | .keydnAuto => Laws.EncodesItsRow.keydnAuto
  | .keyupThrUp => Laws.EncodesItsRow.keyupThrUp
  | .keyupThrDown => Laws.EncodesItsRow.keyupThrDown
  | .keyupRollLeft => Laws.EncodesItsRow.keyupRollLeft
  | .keyupRollRight => Laws.EncodesItsRow.keyupRollRight
  | .keyupAux1 => Laws.EncodesItsRow.keyupAux1
  | .keyupAux2 => Laws.EncodesItsRow.keyupAux2
  | .keyupAuto => Laws.EncodesItsRow.keyupAuto
  | .setspd value => Laws.EncodesItsRow.setspd value
  | .tmrstart => Laws.EncodesItsRow.tmrstart
  | .tmrcancel => Laws.EncodesItsRow.tmrcancel
  | .pause => Laws.EncodesItsRow.pause
  | .resume => Laws.EncodesItsRow.resume
  | .connect => Laws.EncodesItsRow.connect
  | .disconnect => Laws.EncodesItsRow.disconnect
  | .mspulse nowMs txReady => Laws.EncodesItsRow.mspulse nowMs txReady
  | .setp pattern => Laws.EncodesItsRow.setp pattern
  | .seti pattern => Laws.EncodesItsRow.seti pattern
  | .setd pattern => Laws.EncodesItsRow.setd pattern
  | .sendcfg txReady => Laws.EncodesItsRow.sendcfg txReady
  | .rdreg reg => Laws.EncodesItsRow.rdreg reg
  | .rc length tail => Laws.EncodesItsRow.rc length tail
  | .config length tail => Laws.EncodesItsRow.config length tail
  | .rcThrottle size value => Laws.EncodesItsRow.rcThrottle size value
  | .rcRoll size value => Laws.EncodesItsRow.rcRoll size value
  | .rcAux1 size value => Laws.EncodesItsRow.rcAux1 size value
  | .rcAux2 size value => Laws.EncodesItsRow.rcAux2 size value
  | .rcTimestamp value => Laws.EncodesItsRow.rcTimestamp value
  | .cfgP pattern => Laws.EncodesItsRow.cfgP pattern
  | .cfgI pattern => Laws.EncodesItsRow.cfgI pattern
  | .cfgD pattern => Laws.EncodesItsRow.cfgD pattern

/-- A command word that decodes selects the row of its instruction. -/
theorem decodeCommand_selects {w : Command} {bytes : List Byte} {i : Instr}
    (h : decode (.command w bytes) = .ok i) :
    ∃ r ∈ cmdTable, r.mnemonic = mnemonicOf i ∧ rowSelects r w = true := by
  have hselected := selected_encode i
  rwa [encode_of_decodeFields h, commandWord_of_fields] at hselected

theorem rowSelects_iff {n : Nat} (r : TableRow n) (w : BitVec n) :
    rowSelects r w = true ↔ w &&& r.mask = r.pattern := by
  rw [rowSelects, beq_iff_eq]

/-- Any two rows of the table differ in a bit that both test. -/
theorem cmdTable_pairwise :
    cmdTable.Pairwise fun r r' => r.pattern &&& r'.mask ≠ r'.pattern &&& r.mask := by
  decide

/-- No word selects two rows. -/
theorem cmdTable_row_unique {w : Command} {r r' : TableRow 48} (hr : r ∈ cmdTable)
    (hr' : r' ∈ cmdTable) (hw : rowSelects r w = true) (hw' : rowSelects r' w = true) : r = r' := by
  rw [rowSelects_iff] at hw hw'
  have hagree : r.pattern &&& r'.mask = r'.pattern &&& r.mask := by
    rw [← hw, ← hw', BitVec.and_assoc, BitVec.and_assoc, BitVec.and_comm r.mask]
  have hsymm : Std.Symm fun r r' : TableRow 48 => r.pattern &&& r'.mask ≠ r'.pattern &&& r.mask :=
    ⟨fun _ _ h => h.symm⟩
  by_contra hne
  exact cmdTable_pairwise.forall hr hr' hne hagree

/-- The rows follow R111: each tests the whole operation code, one that R111 assigns, every operand that
must be zero, the key code, and the upper bits of `tx_ready`. -/
theorem cmdTable_row_fields : ∀ r ∈ cmdTable,
    (opField r.mask = 0xFF ∧ opField r.pattern ∈ assignedOps) ∧
    (opField r.pattern ∈ zeroAOps → aField r.mask = 0xFF ∧ aField r.pattern = 0) ∧
    (opField r.pattern ∈ zeroVOps → vField r.mask = 0xFFFFFFFF ∧ vField r.pattern = 0) ∧
    (opField r.pattern = 0x40 ∨ opField r.pattern = 0x41 →
      aField r.mask = 0xFF ∧ (aField r.pattern).toNat ≤ 6) ∧
    (opField r.pattern = 0x56 ∨ opField r.pattern = 0x5B →
      aField r.mask = 0xFE ∧ aField r.pattern = 0) := by
  decide

/-- The upper seven bits of a byte are what the mask of `tx_ready` tests. -/
theorem and_FE_eq_zero {a : Byte} (h : a &&& 0xFE = 0) : a.extractLsb' 1 7 = 0 := by
  revert a
  decide

/-- A word that selects a row is not illegal by (a) to (d); what is left of (e) and (f) no row tests. -/
theorem not_illegalFields_of_rowSelects {w : Command} {r : TableRow 48} {bytes : List Byte}
    (hr : r ∈ cmdTable) (hw : rowSelects r w = true)
    (hreg : opField w = 0x60 → aField w ∈ assignedRegs)
    (hcount : opField w = 0x2F → (vField w).toNat = bytes.length) :
    ¬IllegalFields (opField w) (aField w) (vField w) bytes := by
  obtain ⟨⟨hopmask, hassigned⟩, hzeroA, hzeroV, hkey, hready⟩ := cmdTable_row_fields r hr
  have hw' := (rowSelects_iff r w).1 hw
  have hop : opField w = opField r.pattern := by
    rw [← hw', opField_and, hopmask]
    exact BitVec.and_allOnes.symm
  have ha : aField w &&& aField r.mask = aField r.pattern := by rw [← hw', aField_and]
  have hv : vField w &&& vField r.mask = vField r.pattern := by rw [← hw', vField_and]
  have hwhole : aField r.mask = 0xFF → aField w = aField r.pattern := by
    intro hmask
    rw [← ha, hmask]
    exact BitVec.and_allOnes.symm
  rw [hop] at hreg hcount ⊢
  rintro (hunassigned | ⟨hin, hne⟩ | ⟨hin, hne⟩ | ⟨hin, hgt⟩ | ⟨hin, hne⟩ | ⟨hin, hnot⟩ | ⟨hin, hne⟩)
  · exact hunassigned hassigned
  · obtain ⟨hmask, hpattern⟩ := hzeroA hin
    exact hne ((hwhole hmask).trans hpattern)
  · obtain ⟨hmask, hpattern⟩ := hzeroV hin
    rw [hmask, hpattern] at hv
    exact hne (BitVec.and_allOnes.symm.trans hv)
  · obtain ⟨hmask, hpattern⟩ := hkey hin
    rw [hwhole hmask] at hgt
    omega
  · obtain ⟨hmask, hpattern⟩ := hready hin
    rw [hmask, hpattern] at ha
    exact hne (and_FE_eq_zero ha)
  · exact hnot (hreg hin)
  · exact hne (hcount hin)

theorem mem_assignedRegs_iff {a : Byte} : a ∈ assignedRegs ↔ ∃ reg : Reg, a = reg.number := by
  rw [← not_iff_not, ← ofNumber_eq_none_iff, Option.eq_none_iff_forall_ne_some, not_exists]
  exact forall_congr' fun reg => not_congr ofNumber_eq_some_iff

/-- A word decodes or is illegal. -/
theorem exists_decode_of_not_illegal {w : Command} {bytes : List Byte}
    (h : ¬IllegalFields (opField w) (aField w) (vField w) bytes) :
    ∃ i, decode (.command w bytes) = .ok i := by
  rw [← decodeFields_eq_error_iff] at h
  cases hd : decodeFields (opField w) (aField w) (vField w) bytes with
  | ok i => exact ⟨i, hd⟩
  | error e => exact absurd ⟨e, hd⟩ h

/-- A word that decodes meets conditions (e) and (f) of R115. -/
theorem not_illegal_of_decode {w : Command} {bytes : List Byte} {i : Instr}
    (h : decode (.command w bytes) = .ok i) :
    ¬IllegalFields (opField w) (aField w) (vField w) bytes := by
  rw [← decodeFields_eq_error_iff]
  rintro ⟨e, he⟩
  cases h.symm.trans he

/-- Settles O4: a word that decodes is the encoding of its instruction and so selects its row; a word
that selects a row is not illegal, and the row it then decodes to is that one. -/
theorem legalWordsSelectTheirTableRow : Obligations.LegalWordsSelectTheirTableRow := by
  refine ⟨fun w bytes i h => ?_, fun w bytes r hr hw hreg hcount => ?_,
    fun w r r' hr hr' hw hw' => cmdTable_row_unique hr hr' hw hw'⟩
  · obtain ⟨r, hr, hname, hw⟩ := decodeCommand_selects h
    have hlegal := not_illegal_of_decode h
    simp only [IllegalFields, not_or, not_and, Decidable.not_not, ne_eq] at hlegal
    obtain ⟨-, -, -, -, -, hreg, hcount⟩ := hlegal
    exact ⟨⟨r, hr, hw, hname⟩, fun hop => mem_assignedRegs_iff.1 (hreg hop), hcount⟩
  · obtain ⟨i, hi⟩ := exists_decode_of_not_illegal
      (not_illegalFields_of_rowSelects hr hw (fun hop => mem_assignedRegs_iff.2 (hreg hop)) hcount)
    obtain ⟨r', hr', hname, hw'⟩ := decodeCommand_selects hi
    exact ⟨i, hi, by rw [← hname, cmdTable_row_unique hr hr' hw hw']⟩

end Sys2Proof.Machine
end

section
/-! PROOFS. The wire format (30_encoding.md Part A): a record and its bytes, the walk over a record area
and the records it holds, and the frames that the decoder accepts. -/

namespace Sys2Proof.Machine

/-! ### A record and its bytes (R13, R94) -/

theorem recordBytes_eq (r : Record) :
    recordBytes r = r.id :: r.size :: leBytes r.size.toNat r.value := rfl

@[simp] theorem recordBytes_length (r : Record) : (recordBytes r).length = r.size.toNat + 2 := by
  simp [recordBytes]

theorem recordWf_iff (r : Record) :
    recordWf r = true ↔
      (r.size = 1 ∨ r.size = 2 ∨ r.size = 4) ∧ r.value.toNat < 256 ^ r.size.toNat := by
  rw [recordWf, decide_eq_true_eq]

theorem leNat_lt (bytes : List Byte) : leNat bytes < 256 ^ bytes.length := by
  induction bytes with
  | nil => simp [leNat]
  | cons b bs ih =>
    have hb := b.isLt
    rw [leNat, List.length_cons, pow_succ]
    omega

theorem leVal_toNat {bytes : List Byte} (h : bytes.length ≤ 4) : (leVal bytes).toNat = leNat bytes := by
  have hpow : 256 ^ bytes.length ≤ 256 ^ 4 := Nat.pow_le_pow_right (by decide) h
  have hlt := leNat_lt bytes
  rw [leVal, BitVec.toNat_ofNat, Nat.mod_eq_of_lt (by omega)]

/-- Byte `k` of a little-endian value (R13). -/
theorem leNat_div_pow (bytes : List Byte) (k : Nat) :
    leNat bytes / 256 ^ k % 256 = (byteAt bytes k).toNat := by
  induction bytes generalizing k with
  | nil => simp [leNat, byteAt]
  | cons b bs ih =>
    have hb := b.isLt
    cases k with
    | zero =>
      rw [leNat, pow_zero, Nat.div_one]
      show _ = b.toNat
      omega
    | succ k =>
      have hdiv : (b.toNat + 256 * leNat bs) / 256 = leNat bs := by omega
      rw [leNat, pow_succ', ← Nat.div_div_eq_div_mul, hdiv, ih]
      rfl

/-- `LE_n(LEval(s)) = s` for a sequence of `n` bytes (R13). -/
theorem leBytes_leVal {bytes : List Byte} (h : bytes.length ≤ 4) :
    leBytes bytes.length (leVal bytes) = bytes := by
  apply List.ext_getElem (by simp)
  intro k hk hk'
  have hbyte : byteAt bytes k = bytes[k] := List.getD_eq_getElem _ _ hk'
  rw [← hbyte]
  apply BitVec.eq_of_toNat_eq
  rw [← leNat_div_pow]
  simp only [leBytes, List.getElem_map, List.getElem_range, BitVec.extractLsb'_toNat, leVal_toNat h,
    Nat.shiftRight_eq_div_pow]
  rw [pow_mul]
  rfl

theorem leVal_leBytes_of_wf {r : Record} (h : recordWf r = true) :
    leVal (leBytes r.size.toNat r.value) = r.value := by
  obtain ⟨hsize, hvalue⟩ := (recordWf_iff r).1 h
  obtain hs | hs | hs := hsize <;> rw [hs] at hvalue ⊢
  · exact leVal_leBytes_one _ (Nat.le_of_lt_succ hvalue)
  · exact leVal_leBytes_two _ (Nat.le_of_lt_succ hvalue)
  · exact leVal_leBytes_four _

/-! ### Pieces of a byte space (R13) -/

/-- A slice is cut at any index between its ends. -/
theorem slice_append {byte : Nat → Byte} {i m j : Nat} (him : i ≤ m) (hmj : m ≤ j) :
    slice byte i m ++ slice byte m j = slice byte i j := by
  induction hmj with
  | refl => simp [slice_of_le]
  | step hmj ih => rw [slice_succ hmj, slice_succ (him.trans hmj), ← List.append_assoc, ih]

/-- Where a byte space starts with a record's bytes, the record stands there. -/
theorem slice_eq_recordBytes_iff (byte : Nat → Byte) (o : Nat) (r : Record) :
    slice byte o (o + 2 + r.size.toNat) = recordBytes r ↔
      byte o = r.id ∧ byte (o + 1) = r.size ∧
        slice byte (o + 2) (o + 2 + r.size.toNat) = leBytes r.size.toNat r.value := by
  rw [slice_cons (by omega), slice_cons (by omega), recordBytes_eq, List.cons.injEq,
    List.cons.injEq]

/-! ### The record reader and the walk (R94, R150, R158) -/

/-- The record reader reads a record of the format where its bytes stand in the record area, and nothing
else. -/
theorem tlv_eq_ok_iff_slice (byte : Nat → Byte) (last o : Nat) (r : TlvRead) :
    tlv byte last o = .ok r ↔
      3 ≤ o ∧ r.next ≤ last ∧ r.next = o + 2 + r.record.size.toNat ∧ recordWf r.record = true ∧
        slice byte o r.next = recordBytes r.record := by
  rw [tlv_eq_ok_iff]
  constructor
  · rintro ⟨ho, -, hsize, hfits, rfl⟩
    have hle : (byte (o + 1)).toNat ≤ 4 := by rcases hsize with h | h | h <;> rw [h] <;> decide
    have hlen : (slice byte (o + 2) (o + 2 + (byte (o + 1)).toNat)).length = (byte (o + 1)).toNat := by
      simp
    refine ⟨ho, hfits, rfl, (recordWf_iff _).2 ⟨hsize, ?_⟩,
      (slice_eq_recordBytes_iff byte o ⟨byte o, byte (o + 1), _⟩).2 ⟨rfl, rfl, ?_⟩⟩
    · rw [leVal_toNat (hlen.trans_le hle)]
      exact (leNat_lt _).trans_eq (by rw [hlen])
    · have hback := leBytes_leVal (hlen.trans_le hle)
      rw [hlen] at hback
      exact hback.symm
  · rintro ⟨ho, hfits, hnext, hwf, hslice⟩
    obtain ⟨⟨id, size, value⟩, next⟩ := r
    rw [hnext] at hslice
    obtain ⟨hid, hs, hvalue⟩ := (slice_eq_recordBytes_iff ..).1 hslice
    have hval := leVal_leBytes_of_wf hwf
    obtain ⟨hsize, -⟩ := (recordWf_iff _).1 hwf
    simp only at hid hs hvalue hsize hnext hfits hval
    subst hid hs hnext
    have hpos : 0 < (byte (o + 1)).toNat := by rcases hsize with h | h | h <;> rw [h] <;> decide
    rw [hvalue, hval]
    exact ⟨ho, by omega, hsize, hfits, rfl⟩

/-- The records whose bytes stand first in a record area are the first that the walk reads. -/
theorem walk_append {byte : Nat → Byte} {last fuel o m : Nat} {records : List Record}
    (hwf : ∀ r ∈ records, recordWf r = true) (ho : 3 ≤ o) (hom : o ≤ m) (hm : m ≤ last)
    (hfuel : last - o ≤ fuel) (hslice : slice byte o m = records.flatMap recordBytes) :
    walk byte last fuel o = (walk byte last fuel m).map (records ++ ·) := by
  induction records generalizing fuel o with
  | nil =>
    have hlen := congrArg List.length hslice
    rw [slice_length, List.flatMap_nil, List.length_nil] at hlen
    obtain rfl : o = m := by omega
    cases walk byte last fuel o <;> rfl
  | cons r rest ih =>
    obtain ⟨hr, hrest⟩ := List.forall_mem_cons.1 hwf
    have hlen := congrArg List.length hslice
    rw [slice_length, List.flatMap_cons, List.length_append, recordBytes_length] at hlen
    have hcut := slice_append (byte := byte) (i := o) (m := o + 2 + r.size.toNat) (j := m)
      (by omega) (by omega)
    rw [hslice, List.flatMap_cons] at hcut
    obtain ⟨hfirst, hothers⟩ := List.append_inj hcut (by simp; omega)
    have hread : tlv byte last o = .ok ⟨r, o + 2 + r.size.toNat⟩ :=
      (tlv_eq_ok_iff_slice ..).2 ⟨ho, (by omega : o + 2 + r.size.toNat ≤ last), rfl, hr, hfirst⟩
    obtain ⟨f, rfl⟩ : ∃ f, fuel = f + 1 := ⟨fuel - 1, by omega⟩
    rw [walk_succ _ _ _ _ (by omega), hread]
    simp only
    rw [ih hrest (by omega) (by omega) (by omega) hothers, walk_fuel _ _ f (f + 1) m (by omega) (by omega)]
    cases walk byte last (f + 1) m <;> rfl

/-- The walk finds records exactly where the record area is made of their bytes. -/
theorem walk_eq_ok_iff {byte : Nat → Byte} {last fuel o : Nat} {records : List Record} (ho : 3 ≤ o)
    (hlast : o ≤ last) (hfuel : last - o ≤ fuel) :
    walk byte last fuel o = .ok records ↔
      (∀ r ∈ records, recordWf r = true) ∧ slice byte o last = records.flatMap recordBytes := by
  constructor
  · intro h
    induction fuel generalizing o records with
    | zero =>
      cases h
      simp [slice_of_le (show last ≤ o by omega)]
    | succ fuel ih =>
      obtain ⟨hend, rfl⟩ | ⟨hlt, r, rest, hr, hrest, rfl⟩ := walk_succ_eq_ok h
      · simp [slice_of_le hend]
      · obtain ⟨-, hle, hnext, hwf, hslice⟩ := (tlv_eq_ok_iff_slice ..).1 hr
        obtain ⟨hwfs, hslices⟩ := ih (by omega) hle (by omega) hrest
        refine ⟨List.forall_mem_cons.2 ⟨hwf, hwfs⟩, ?_⟩
        rw [List.flatMap_cons, ← hslice, ← hslices, slice_append (by omega) hle]
  · rintro ⟨hwf, hslice⟩
    rw [walk_append hwf ho hlast le_rfl hfuel hslice, walk_end _ _ _ _ le_rfl]
    simp [Except.map]

theorem recordsOf_eq_ok_iff {byte : Nat → Byte} {last : Nat} {records : List Record} (hlast : 3 ≤ last) :
    recordsOf byte last = .ok records ↔
      (∀ r ∈ records, recordWf r = true) ∧ slice byte 3 last = records.flatMap recordBytes :=
  walk_eq_ok_iff le_rfl hlast le_rfl

/-! ### Frames (R91, R92) -/

/-- The byte space of a frame of the format: its header, its record area, its checksum. -/
theorem byteAt_frame {ty : Byte} {area : List Byte} (harea : area.length ≤ 254) :
    byteAt (frame ty area) 0 = 0x02 ∧ endOf (byteAt (frame ty area)) = 3 + area.length ∧
      byteAt (frame ty area) 2 = ty ∧
      slice (byteAt (frame ty area)) 3 (3 + area.length) = area ∧
      byteAt (frame ty area) (3 + area.length) = xorBytes (ty :: area) := by
  refine ⟨rfl, ?_, rfl, ?_, ?_⟩
  · show 2 + (BitVec.ofNat 8 (1 + area.length)).toNat = _
    rw [BitVec.toNat_ofNat]
    omega
  · rw [slice_byteAt _ _ _ (by simp; omega)]
    simp [frame]
  · rw [Nat.add_comm]
    simp [frame, byteAt]

/-- The decoder accepts a frame's header and checksum. -/
theorem soundMessage_frame {ty : Byte} {area : List Byte} (harea : area.length ≤ 254) :
    SoundMessage (byteAt (frame ty area)) (frame ty area).length := by
  obtain ⟨hstx, hend, htype, hslice, hck⟩ := byteAt_frame (ty := ty) harea
  rw [endOf] at hend
  have hlast : (frame ty area).length - 1 = 3 + area.length := by
    rw [frame_length]
    omega
  rw [SoundMessage, hlast, slice_cons (by omega), htype, hslice, hck, frame_length]
  refine ⟨by omega, hstx, fun hzero => ?_, by omega, rfl⟩
  rw [hzero] at hend
  simp at hend
  omega

/-- A message of at least four bytes is header, length, type, record area and checksum. -/
theorem exists_parts_of_four_le {bytes : List Byte} (h : 4 ≤ bytes.length) :
    ∃ header length ty area ck, bytes = header :: length :: ty :: (area ++ [ck]) := by
  match bytes, h with
  | header :: length :: ty :: b :: rest, _ =>
    refine ⟨header, length, ty, (b :: rest).dropLast, (b :: rest).getLast (by simp), ?_⟩
    rw [List.dropLast_append_getLast]

/-- The sound messages are the frames of the format. -/
theorem exists_frame_of_soundMessage {bytes : List Byte}
    (h : SoundMessage (byteAt bytes) bytes.length) :
    ∃ ty area, area.length ≤ 254 ∧ bytes = frame ty area := by
  obtain ⟨h4, hstx, -, hlen, hck⟩ := h
  obtain ⟨header, length, ty, area, ck, rfl⟩ := exists_parts_of_four_le h4
  have hlength := length.isLt
  have hcount : area.length + 1 = length.toNat := by
    have : area.length + 4 = length.toNat + 3 := by simpa [byteAt] using hlen
    omega
  rw [slice_byteAt _ _ _ (by omega)] at hck
  refine ⟨ty, area, by omega, ?_⟩
  have hheader : header = Config.stx := hstx
  have hlengthByte : length = BitVec.ofNat 8 (1 + area.length) := by
    rw [Nat.add_comm, hcount, BitVec.ofNat_toNat, BitVec.setWidth_eq]
  have hchecksum : ck = xorBytes (ty :: area) := by
    simpa [byteAt] using hck.symm
  rw [frame, hheader, hlengthByte, hchecksum]
  rfl

/-- A frame of the format is decoded to its type and what the walk finds in its record area. -/
theorem decodeMessage_frame {ty : Byte} {area : List Byte} (harea : area.length ≤ 254) :
    decodeMessage (byteAt (frame ty area)) (frame ty area).length =
      (recordsOf (byteAt (frame ty area)) (3 + area.length)).map (ty, ·) := by
  obtain ⟨hgood, hck⟩ := (soundMessage_iff ..).1 (soundMessage_frame (ty := ty) harea)
  obtain ⟨-, hend, htype, -, -⟩ := byteAt_frame (ty := ty) harea
  rw [decodeMessage, hgood, hck, hend, htype]
  cases recordsOf (byteAt (frame ty area)) (3 + area.length) <;> rfl

/-- A frame made of records of the format is decoded to its type and those records. -/
theorem decodeMessage_frame_records (ty : Byte) {records : List Record}
    (hwf : ∀ r ∈ records, recordWf r = true) (harea : (records.flatMap recordBytes).length ≤ 254) :
    decodeMessage (byteAt (frame ty (records.flatMap recordBytes)))
      (frame ty (records.flatMap recordBytes)).length = .ok (ty, records) := by
  obtain ⟨-, -, -, hslice, -⟩ := byteAt_frame (ty := ty) harea
  rw [decodeMessage_frame harea, (recordsOf_eq_ok_iff (by omega)).2 ⟨hwf, hslice⟩]
  rfl

/-- Settles O25: an accepted message is sound, so it is a frame, and its walk succeeded, so its record
area is made of the records read. -/
theorem acceptedMessagesAreExactlyFrames : Obligations.AcceptedMessagesAreExactlyFrames := by
  intro bytes ty records
  constructor
  · intro h
    obtain ⟨hgood, hck, hrecords, htype⟩ := (decodeMessage_eq_ok_iff ..).1 h
    obtain ⟨ty', area, harea, rfl⟩ :=
      exists_frame_of_soundMessage ((soundMessage_iff ..).2 ⟨hgood, hck⟩)
    obtain ⟨-, hend, htype', hslice, -⟩ := byteAt_frame (ty := ty') harea
    rw [hend, recordsOf_eq_ok_iff (by omega), hslice] at hrecords
    obtain ⟨hwf, rfl⟩ := hrecords
    exact ⟨hwf, harea, by rw [htype, htype']⟩
  · rintro ⟨hwf, harea, rfl⟩
    exact decodeMessage_frame_records ty hwf harea

/-! ### The cause of a drop (R93, R150) -/

/-- Where the record reader fails behind records of the format, the walk fails with its cause. -/
theorem recordsOf_eq_error {byte : Nat → Byte} {last o : Nat} {records : List Record} {c : Cause}
    (hwf : ∀ r ∈ records, recordWf r = true) (ho : 3 ≤ o) (hlt : o < last)
    (hslice : slice byte 3 o = records.flatMap recordBytes) (htlv : tlv byte last o = .error c) :
    recordsOf byte last = .error c := by
  obtain ⟨fuel, hfuel⟩ : ∃ fuel, last - 3 = fuel + 1 := ⟨last - 4, by omega⟩
  rw [recordsOf, walk_append hwf le_rfl ho (by omega) le_rfl hslice, hfuel, walk_succ _ _ _ _ hlt, htlv]
  rfl

/-- Settles O27: structure, then checksum, then the walk, whose cause is that of the first record it
cannot read. -/
theorem dropCauseIsTheFirstInOrder : Obligations.DropCauseIsTheFirstInOrder := by
  intro byte n
  have hlast (hgood : structural byte n = none) : n - 1 = endOf byte := by
    obtain ⟨-, -, -, hn⟩ := (structural_eq_none_iff ..).1 hgood
    rw [endOf]
    omega
  refine ⟨fun c hbad => ?_, fun hgood hck => ?_, fun records o c hgood hck hwf ho hlt hslice htlv => ?_⟩
  · rw [decodeMessage, hbad]
  · rw [hlast hgood] at hck
    rw [decodeMessage, hgood]
    exact if_neg (by simpa [cksumOk] using hck)
  · rw [hlast hgood] at hck hlt htlv
    have hrecords := recordsOf_eq_error hwf ho hlt hslice htlv
    have hcksum : cksumOk byte = true := by simpa [cksumOk] using hck
    rw [decodeMessage, hgood]
    simp [hcksum, hrecords]

/-! ### What the checksum does not see (R313) -/

theorem xorBytes_perm {xs ys : List Byte} (h : xs.Perm ys) : xorBytes xs = xorBytes ys := by
  induction h with
  | nil => rfl
  | cons x _ ih => rw [xorBytes_cons, xorBytes_cons, ih]
  | swap x y l => simp only [xorBytes_cons, ← BitVec.xor_assoc, BitVec.xor_comm x y]
  | trans _ _ ih1 ih2 => exact ih1.trans ih2

/-- The checksum test of a message whose length byte counts its body. -/
theorem cksumOk_byteAt {length ck : Byte} {body : List Byte} (h : body.length = length.toNat) :
    cksumOk (byteAt (0x02 :: length :: body ++ [ck])) = (xorBytes body == ck) := by
  have hend : endOf (byteAt (0x02 :: length :: body ++ [ck])) = 2 + body.length := by rw [h]; rfl
  have hbody : slice (byteAt (0x02 :: length :: body ++ [ck])) 2 (2 + body.length) = body := by
    rw [slice_byteAt _ _ _ (by simp; omega)]
    simp
  have hck : byteAt (0x02 :: length :: body ++ [ck]) (2 + body.length) = ck := by
    rw [Nat.add_comm]
    simp [byteAt]
  rw [cksumOk, hend, hbody, hck]

/-- One byte of a range changed by a mask changes the XOR of the range by that mask. -/
theorem xorBytes_slice_of_flip {byte byte' : Nat → Byte} {i m j : Nat} {flip : Byte} (hi : i ≤ m)
    (hj : m < j) (hother : ∀ k, k ≠ m → byte' k = byte k) (hflip : byte' m = byte m ^^^ flip) :
    xorBytes (slice byte' i j) = xorBytes (slice byte i j) ^^^ flip := by
  induction hi using Nat.decreasingInduction with
  | self =>
    have hrest : slice byte' (m + 1) j = slice byte (m + 1) j :=
      slice_congr fun k hk _ => hother k (by omega)
    rw [slice_cons hj, slice_cons hj, hrest, hflip, xorBytes_cons, xorBytes_cons]
    ac_rfl
  | of_succ i hi ih =>
    rw [slice_cons (byte := byte') (by omega), slice_cons (byte := byte) (by omega), hother i (by omega),
      xorBytes_cons, xorBytes_cons, ih, BitVec.xor_assoc]

/-- The acceptance test with body and checksum as one sum (R153). -/
theorem soundMessage_iff_xor_eq_zero (byte : Nat → Byte) (n : Nat) :
    SoundMessage byte n ↔
      4 ≤ n ∧ byte 0 = 0x02 ∧ byte 1 ≠ 0 ∧ n = (byte 1).toNat + 3 ∧ xorBytes (slice byte 2 n) = 0 := by
  constructor
  · intro h
    obtain ⟨h4, hstx, hlength, hlen, -⟩ := id h
    exact ⟨h4, hstx, hlength, hlen, h.xor_eq_zero⟩
  · rintro ⟨h4, hstx, hlength, hlen, hxor⟩
    obtain ⟨m, rfl⟩ : ∃ m, n = m + 1 := ⟨n - 1, by omega⟩
    rw [slice_succ (by omega), xorBytes_append, xorBytes_singleton] at hxor
    exact ⟨h4, hstx, hlength, hlen, BitVec.xor_eq_zero_iff.1 hxor⟩

/-- Settles O31: XOR is commutative, and the same mask at two places cancels. -/
theorem checksumIsBlindToReordering : Obligations.ChecksumIsBlindToReordering := by
  refine ⟨fun length ck body body' hperm hlen => ?_, fun bytes i j flip hsound hi hij hj => ?_⟩
  · rw [cksumOk_byteAt hlen, cksumOk_byteAt (hperm.length_eq ▸ hlen), xorBytes_perm hperm]
  · set once := bytes.set i (byteAt bytes i ^^^ flip) with honce
    have hi' : i < bytes.length := hij.trans hj
    have hj' : j < once.length := by rwa [honce, List.length_set]
    have hbytej : byteAt once j = byteAt bytes j := byteAt_set_other bytes hij.ne' _
    have hfirst := xorBytes_slice_of_flip (i := 2) (j := bytes.length) hi hi'
      (fun k hk => byteAt_set_other bytes hk _) (byteAt_set_same hi' (byteAt bytes i ^^^ flip))
    have hsecond := xorBytes_slice_of_flip (byte := byteAt once) (i := 2) (j := bytes.length)
      (hi.trans hij.le) hj (fun k hk => byteAt_set_other once hk _)
      ((byteAt_set_same hj' (byteAt bytes j ^^^ flip)).trans (by rw [hbytej]))
    have hlow (k : Nat) (hk : k < 2) :
        byteAt (once.set j (byteAt bytes j ^^^ flip)) k = byteAt bytes k := by
      rw [byteAt_set_other once (by omega), byteAt_set_other bytes (by omega)]
    rw [soundMessage_iff_xor_eq_zero] at hsound ⊢
    rw [hlow 0 (by decide), hlow 1 (by decide), hsecond, hfirst, BitVec.xor_assoc, BitVec.xor_self,
      BitVec.xor_zero]
    exact hsound

end Sys2Proof.Machine
end

section
/-! PROOFS. Messages that arrive (41_frame_decoder.md R150): `RXMSG` and the wire items on a block that
is not halted, and what is delivered when the message is a frame of the format. -/

namespace Sys2Proof.Machine

/-! ### The arrival of a message (R31, R150) -/

/-- The rows by which a message arrives differ in its bytes only: an instruction that runs the receive
body on `bytes` is the arrival of `bytes`. -/
theorem Receives.of_exec_eq {i : Instr} {bytes : List Byte}
    (h : ∀ s : State, s.halted = false → exec i s = .next (s.receive bytes)) : Receives i bytes := by
  intro s hrun
  refine ⟨s.receive bytes, h s hrun, ?_, fun k hk => ?_, ?_⟩
  · obtain ⟨_, _, -, hreceive⟩ | ⟨_, -, hreceive⟩ := s.receive_cases bytes <;> rw [hreceive] <;> rfl
  · obtain ⟨hbyte, -, -⟩ := s.receive_frame bytes
    have hlt : k < bytes.length := by omega
    rw [hbyte, rxByte_loadRx s bytes k hk, byteAt, List.getD_eq_getElem _ _ hlt,
      List.getElem?_eq_getElem hlt]
  · obtain ⟨_, _, hmessage, hreceive⟩ | ⟨_, hmessage, hreceive⟩ := s.receive_cases bytes <;>
      rw [hmessage, hreceive] <;> exact ⟨rfl, rfl, rfl, rfl⟩

theorem receives_rxmsg (bytes : List Byte) : Receives (.rxmsg bytes) bytes :=
  .of_exec_eq fun _ hrun => exec_rxmsg_running hrun bytes

/-- Settles O22: `RXMSG` runs the receive body on its bytes. -/
theorem rxmsgLoadsAndReports : Obligations.RxmsgLoadsAndReports := receives_rxmsg

/-! ### The wire items (log 1) -/

theorem receives_rc (length : Byte) (tail : List Byte) :
    Receives (.rc length tail) (0x02 :: length :: 0x01 :: tail) :=
  .of_exec_eq fun _ hrun => by rw [exec, execRc, unlessHalted_running hrun]

theorem receives_config (length : Byte) (tail : List Byte) :
    Receives (.config length tail) (0x02 :: length :: 0x02 :: tail) :=
  .of_exec_eq fun _ hrun => by rw [exec, execConfig, unlessHalted_running hrun]

theorem receives_rcThrottle (size : Byte) (value : List Byte) :
    Receives (.rcThrottle size value) (frame 0x01 (1 :: size :: value)) :=
  .of_exec_eq fun _ hrun => by rw [exec, execRcThrottle, unlessHalted_running hrun, recordFrame]

theorem receives_rcRoll (size : Byte) (value : List Byte) :
    Receives (.rcRoll size value) (frame 0x01 (0 :: size :: value)) :=
  .of_exec_eq fun _ hrun => by rw [exec, execRcRoll, unlessHalted_running hrun, recordFrame]

theorem receives_rcAux1 (size : Byte) (value : List Byte) :
    Receives (.rcAux1 size value) (frame 0x01 (3 :: size :: value)) :=
  .of_exec_eq fun _ hrun => by rw [exec, execRcAux1, unlessHalted_running hrun, recordFrame]

theorem receives_rcAux2 (size : Byte) (value : List Byte) :
    Receives (.rcAux2 size value) (frame 0x01 (4 :: size :: value)) :=
  .of_exec_eq fun _ hrun => by rw [exec, execRcAux2, unlessHalted_running hrun, recordFrame]

theorem receives_rcTimestamp (v : Word32) :
    Receives (.rcTimestamp v) (frame 0x01 (recordBytes ⟨100, 4, v⟩)) :=
  .of_exec_eq fun _ hrun => by rw [exec, execRcTimestamp, unlessHalted_running hrun]; rfl

theorem receives_cfgP (v : Word32) : Receives (.cfgP v) (frame 0x02 (recordBytes ⟨1, 4, v⟩)) :=
  .of_exec_eq fun _ hrun => by rw [exec, execCfgP, unlessHalted_running hrun]; rfl

theorem receives_cfgI (v : Word32) : Receives (.cfgI v) (frame 0x02 (recordBytes ⟨2, 4, v⟩)) :=
  .of_exec_eq fun _ hrun => by rw [exec, execCfgI, unlessHalted_running hrun]; rfl

theorem receives_cfgD (v : Word32) : Receives (.cfgD v) (frame 0x02 (recordBytes ⟨3, 4, v⟩)) :=
  .of_exec_eq fun _ hrun => by rw [exec, execCfgD, unlessHalted_running hrun]; rfl

/-- Settles O23: every wire item runs the receive body on its message. -/
theorem wireItemsArriveAsMessages : Obligations.WireItemsArriveAsMessages :=
  ⟨fun length tail => ⟨receives_rc length tail, receives_config length tail⟩,
    fun size value => ⟨receives_rcThrottle size value, receives_rcRoll size value,
      receives_rcAux1 size value, receives_rcAux2 size value⟩,
    fun v => ⟨receives_rcTimestamp v, receives_cfgP v, receives_cfgI v, receives_cfgD v⟩⟩

/-! ### What is delivered (R164) -/

/-- A message that decodes is delivered as its type and records. -/
theorem Receives.delivers {i : Instr} {bytes : List Byte} {s : State} {ty : Byte}
    {records : List Record} (h : Receives i bytes) (hrun : s.halted = false)
    (hmessage : decodeMessage (byteAt bytes) bytes.length = .ok (ty, records)) :
    ∃ t, exec i s = .next t ∧ t.rxOk = true ∧ t.rxOut = s.rxOut ++ [.frame ty records] := by
  obtain ⟨t, ht, -, -, hitem⟩ := h s hrun
  rw [hmessage] at hitem
  obtain ⟨hok, -, -, hout⟩ := hitem
  exact ⟨t, ht, hok, hout⟩

/-- A message that does not decode is dropped with its cause. -/
theorem Receives.drops {i : Instr} {bytes : List Byte} {s : State} {c : Cause}
    (h : Receives i bytes) (hrun : s.halted = false)
    (hmessage : decodeMessage (byteAt bytes) bytes.length = .error c) :
    ∃ t, exec i s = .next t ∧ t.rxOut = s.rxOut ++ [.dropped c] := by
  obtain ⟨t, ht, -, -, hitem⟩ := h s hrun
  rw [hmessage] at hitem
  obtain ⟨-, -, -, hout⟩ := hitem
  exact ⟨t, ht, hout⟩

/-- A frame made of records of the format is delivered as they are, whatever row it arrives by. -/
theorem Receives.delivers_records {i : Instr} {ty : Byte} {records : List Record} {s : State}
    (h : Receives i (frame ty (records.flatMap recordBytes))) (hrun : s.halted = false)
    (hwf : ∀ r ∈ records, recordWf r = true) (harea : (records.flatMap recordBytes).length ≤ 254) :
    ∃ t, exec i s = .next t ∧ t.rxOk = true ∧ t.rxOut = s.rxOut ++ [.frame ty records] :=
  h.delivers hrun (decodeMessage_frame_records ty hwf harea)

/-! ### One record alone (R94, R104) -/

theorem recordWf_four (id : Byte) (v : Word32) : recordWf ⟨id, 4, v⟩ = true :=
  (recordWf_iff _).2 ⟨.inr (.inr rfl), v.isLt⟩

/-- The frame of one record of size 4 is delivered as that record. -/
theorem Receives.delivers_four {i : Instr} {ty id : Byte} {v : Word32} {s : State}
    (h : Receives i (frame ty (recordBytes ⟨id, 4, v⟩))) (hrun : s.halted = false) :
    ∃ t, exec i s = .next t ∧ t.rxOut = s.rxOut ++ [.frame ty [⟨id, 4, v⟩]] := by
  rw [← List.flatMap_singleton recordBytes] at h
  obtain ⟨t, ht, -, hout⟩ := h.delivers_records hrun
    (List.forall_mem_singleton.2 (recordWf_four id v)) (by simp)
  exact ⟨t, ht, hout⟩

/-- Value bytes of a size of the format are the record of their little-endian value. -/
theorem recordBytes_leVal {id size : Byte} {value : List Byte} (hlen : value.length = size.toNat)
    (hsize : size = 1 ∨ size = 2 ∨ size = 4) :
    recordBytes ⟨id, size, leVal value⟩ = id :: size :: value ∧
      recordWf ⟨id, size, leVal value⟩ = true := by
  have hle : value.length ≤ 4 := by rcases hsize with rfl | rfl | rfl <;> rw [hlen] <;> decide
  rw [recordBytes_eq, ← hlen, leBytes_leVal hle, recordWf_iff, leVal_toNat hle, ← hlen]
  exact ⟨rfl, hsize, leNat_lt value⟩

/-- The frame of one record of variable size is delivered as that record. -/
theorem Receives.delivers_one {i : Instr} {ty id size : Byte} {value : List Byte} {s : State}
    (h : Receives i (frame ty (id :: size :: value))) (hrun : s.halted = false)
    (hlen : value.length = size.toNat) (hsize : size = 1 ∨ size = 2 ∨ size = 4) :
    ∃ t, exec i s = .next t ∧ t.rxOut = s.rxOut ++ [.frame ty [⟨id, size, leVal value⟩]] := by
  obtain ⟨hbytes, hwf⟩ := recordBytes_leVal (id := id) hlen hsize
  have harea : ([⟨id, size, leVal value⟩].flatMap recordBytes).length ≤ 254 := by
    rcases hsize with rfl | rfl | rfl <;> simp
  rw [← hbytes, ← List.flatMap_singleton recordBytes] at h
  obtain ⟨t, ht, -, hout⟩ := h.delivers_records hrun (List.forall_mem_singleton.2 hwf) harea
  exact ⟨t, ht, hout⟩

/-- The frame of one record of another size is dropped at its size byte. -/
theorem Receives.drops_bad_size {i : Instr} {ty id size : Byte} {value : List Byte} {s : State}
    (h : Receives i (frame ty (id :: size :: value))) (hrun : s.halted = false)
    (hlen : value.length = size.toNat) (hsize : ¬(size = 1 ∨ size = 2 ∨ size = 4))
    (hle : size.toNat ≤ 252) :
    ∃ t, exec i s = .next t ∧ t.rxOut = s.rxOut ++ [.dropped .tlvBadSize] := by
  apply h.drops hrun
  have harea : (id :: size :: value).length ≤ 254 := by simp; omega
  have hread : tlv (byteAt (frame ty (id :: size :: value))) (3 + (id :: size :: value).length) 3 =
      .error .tlvBadSize := by
    obtain ⟨-, -, hbad, -⟩ := recordReaderOrder (byteAt (frame ty (id :: size :: value)))
      (3 + (id :: size :: value).length) 3
    have hbyte : byteAt (frame ty (id :: size :: value)) (3 + 1) = size := rfl
    exact hbad le_rfl (by simp; omega) (by rw [hbyte]; simpa using hsize)
  rw [decodeMessage_frame harea, recordsOf_eq_error (records := []) (by simp) le_rfl (by simp)
    (slice_of_le le_rfl) hread]
  rfl

/-- Settles O24: each row by its message, the record delivered or dropped by its size byte. -/
theorem singleRecordsAreDelivered : Obligations.SingleRecordsAreDelivered := by
  refine fun s hrun => ⟨fun size value hlen p hp => ?_, fun v =>
    ⟨(receives_rcTimestamp v).delivers_four hrun, (receives_cfgP v).delivers_four hrun,
      (receives_cfgI v).delivers_four hrun, (receives_cfgD v).delivers_four hrun⟩⟩
  have hreceives : Receives p.2 (frame 0x01 (p.1 :: size :: value)) := by
    simp only [List.mem_cons, List.not_mem_nil, or_false] at hp
    obtain rfl | rfl | rfl | rfl := hp
    · exact receives_rcThrottle size value
    · exact receives_rcRoll size value
    · exact receives_rcAux1 size value
    · exact receives_rcAux2 size value
  exact ⟨hreceives.delivers_one hrun hlen, hreceives.drops_bad_size hrun hlen⟩

end Sys2Proof.Machine
end

section
/-! PROOFS. Frames that come back (40_frame_encoder.md R136, 41_frame_decoder.md R166): what a sequence
of appends builds, that `SEAL` returns a frame of the format, and that it is delivered as it was built.
-/

namespace Sys2Proof.Machine

/-! ### What a sequence of appends builds (R61) -/

/-- `u` is a state reached from `s` with a builder open: of type `ty`, its record area so far `area`. -/
structure State.Builds (s : State) (ty : Byte) (area : List Byte) (u : State) : Prop where
  running : u.halted = false
  isOpen : u.encOpen = true
  cursor : u.wcur.toNat = 3 + area.length
  header : u.ebByte 0 = 0x02
  type : u.ebByte 2 = ty
  content : slice u.ebByte 3 (3 + area.length) = area
  delivered : u.rxOut = s.rxOut

theorem State.Builds.beginFrame {s : State} (hrun : s.halted = false) (hopen : s.encOpen = false)
    (ty : Byte) : ∃ u, exec (.beginFrame ty) s = .next u ∧ s.Builds ty [] u := by
  obtain ⟨-, h⟩ := beginOpensABuilder ty
  obtain ⟨-, hbegin⟩ := h s hrun
  obtain ⟨m, hexec, hheader, -, htype, -⟩ := hbegin hopen
  exact ⟨_, hexec, hrun, rfl, rfl, hheader, htype, slice_of_le le_rfl, rfl⟩

/-- A byte space that has a sequence's bytes from an index on has the sequence as its slice there. -/
theorem slice_eq_of_getElem? {byte : Nat → Byte} {o : Nat} {bytes : List Byte}
    (h : ∀ k b, bytes[k]? = some b → byte (o + k) = b) : slice byte o (o + bytes.length) = bytes := by
  apply List.ext_getElem (by simp)
  intro k _ hk
  simpa [slice] using h k _ (List.getElem?_eq_getElem hk)

/-- An append that fits extends the record area by its record. -/
theorem State.Builds.append {s t : State} {ty : Byte} {area record : List Byte} {i : Instr}
    (hi : Appends i record) (ht : s.Builds ty area t) (hspace : (area ++ record).length ≤ 252) :
    ∃ u, exec i t = .next u ∧ s.Builds ty (area ++ record) u := by
  obtain ⟨hrun, hopen, hcursor, hheader, htype, harea, hdelivered⟩ := ht
  rw [List.length_append] at hspace
  obtain ⟨-, -, happend⟩ := hi t hrun
  obtain ⟨m, hexec, hwritten, hkept⟩ := happend hopen (by omega)
  refine ⟨_, hexec, hrun, hopen, ?cursor, (hkept 0 (by omega)).trans hheader,
    (hkept 2 (by omega)).trans htype, ?area, hdelivered⟩
  case cursor =>
    show (BitVec.ofNat 8 _).toNat = _
    rw [BitVec.toNat_ofNat, List.length_append]
    omega
  case area =>
    have hbefore : slice { t with eb := m }.ebByte 3 (3 + area.length) = area :=
      (slice_congr fun k _ hk => hkept k (by omega)).trans harea
    have hrecord := slice_eq_of_getElem? hwritten
    rw [hcursor] at hrecord
    have hcut := slice_append (byte := { t with eb := m }.ebByte) (i := 3) (m := 3 + area.length)
      (j := 3 + area.length + record.length) (by omega) (by omega)
    rw [hbefore, hrecord] at hcut
    rw [List.length_append, ← Nat.add_assoc]
    exact hcut.symm

theorem recordBytes_irec (id : Byte) (v : Word32) :
    recordBytes ⟨id, BitVec.ofNat 8 (intSize v), v⟩ = irec id v := by
  have hsize : (BitVec.ofNat 8 (intSize v)).toNat = intSize v := by
    obtain h | h | h := intSize_cases v <;> rw [h] <;> rfl
  rw [recordBytes, hsize, irec]

/-- The size rule chooses a size that holds the value (R95). -/
theorem recordWf_intSize (id : Byte) (v : Word32) :
    recordWf ⟨id, BitVec.ofNat 8 (intSize v), v⟩ = true := by
  rw [recordWf_iff, intSize]
  split
  · next h => exact ⟨.inl rfl, Nat.lt_succ_of_le h⟩
  · split
    · next h => exact ⟨.inr (.inl rfl), Nat.lt_succ_of_le h⟩
    · exact ⟨.inr (.inr rfl), v.isLt⟩

/-- The three append operations (R132 to R134) are the host's, their record is one of the format, and they run the
append step of R131 on its bytes. -/
theorem appendedRecord_spec {i : Instr} {r : Record} (h : appendedRecord i = some r) :
    issuerOf i = .host ∧ recordWf r = true ∧
      ∀ s : State, s.halted = false → exec i s = .next (s.append (recordBytes r)) := by
  cases i
  case appi id v =>
    cases h
    exact ⟨rfl, recordWf_intSize id v, fun s hrun => by rw [recordBytes_irec, exec_appi_running hrun]⟩
  case appf id v =>
    cases h
    exact ⟨rfl, recordWf_four id v, fun s hrun => exec_appf_running hrun id v⟩
  case appt v =>
    cases h
    exact ⟨rfl, recordWf_four 100 v, fun s hrun => exec_appt_running hrun v⟩
  all_goals cases h

/-- An append of R132 to R134 appends the bytes of its record, which is one of the format. -/
theorem appends_of_appendedRecord {i : Instr} {r : Record} (h : appendedRecord i = some r) :
    Appends i (recordBytes r) ∧ recordWf r = true := by
  obtain ⟨-, hwf, hexec⟩ := appendedRecord_spec h
  exact ⟨.of_exec_eq hexec, hwf⟩

/-- A sequence of appends that fits extends the record area by its records, in order. -/
theorem State.Builds.appends {s t : State} {ty : Byte} {area : List Byte} {appends : List Instr}
    {records : List Record} (ht : s.Builds ty area t)
    (happends : appends.map appendedRecord = records.map some)
    (hspace : (area ++ records.flatMap recordBytes).length ≤ 252) :
    ∃ u, execAll appends t = .next u ∧ s.Builds ty (area ++ records.flatMap recordBytes) u := by
  induction appends generalizing t area records with
  | nil =>
    obtain rfl : records = [] := by simpa using happends.symm
    rw [List.flatMap_nil, List.append_nil]
    exact ⟨t, rfl, ht⟩
  | cons i is ih =>
    cases records with
    | nil => cases happends
    | cons r rs =>
      rw [List.map_cons, List.map_cons, List.cons.injEq] at happends
      obtain ⟨hi, his⟩ := happends
      rw [List.flatMap_cons, ← List.append_assoc] at hspace ⊢
      obtain ⟨happend, -⟩ := appends_of_appendedRecord hi
      obtain ⟨u, hu, hbuilds⟩ := ht.append happend (by rw [List.length_append] at hspace; omega)
      obtain ⟨v, hv, hbuilds'⟩ := ih hbuilds his hspace
      exact ⟨v, (execAll_cons hu is).trans hv, hbuilds'⟩

/-! ### SEAL returns a frame of the format (R135, R180) -/

theorem State.lastResponse_answered (s : State) (agent : Agent) (st : Status) (d0 d1 : Word32)
    (f : List Byte) : (s.answered agent st d0 d1 f).lastResponse = some ⟨st, d0, d1, f⟩ := by
  simp [State.lastResponse, State.answered]

/-- The frame of an open builder is that of its type byte and its record area. -/
theorem State.sealedFrame_eq_frame {s : State} (hcursor : 3 ≤ s.wcur.toNat) (hheader : s.ebByte 0 = 0x02) :
    s.sealedFrame = frame (s.ebByte 2) (slice s.ebByte 3 s.wcur.toNat) := by
  have hlength : 1 + (s.wcur.toNat - 3) = s.wcur.toNat - 2 := by omega
  rw [State.sealedFrame_eq hcursor, slice_cons (by omega), frame, slice_length, hlength, hheader]
  rfl

/-- `SEAL` of an open builder ends in the response with its frame, halts nothing and delivers nothing. -/
theorem exec_sealFrame_frame {s : State} (hrun : s.halted = false) (hopen : s.encOpen = true)
    (hcursor : 3 ≤ s.wcur.toNat) (hheader : s.ebByte 0 = 0x02) :
    ∃ t f, f = frame (s.ebByte 2) (slice s.ebByte 3 s.wcur.toNat) ∧ exec .sealFrame s = .next t ∧
      t.lastResponse = some ⟨.ok, BitVec.ofNat 32 f.length, 0, f⟩ ∧ t.halted = false ∧
      t.rxOut = s.rxOut := by
  have hlength : s.wcur.toNat + 1 = (frame (s.ebByte 2) (slice s.ebByte 3 s.wcur.toNat)).length := by
    rw [frame_length, slice_length]
    omega
  have hseal := exec_sealFrame_open hrun hopen
  rw [State.sealedFrame_eq_frame hcursor hheader, hlength] at hseal
  exact ⟨_, _, rfl, hseal, State.lastResponse_answered .., hrun, rfl⟩

/-- `BEGIN`, appends that fit, `SEAL`: the response carries the frame of the type and the records
appended. -/
theorem execAll_build {s : State} (hrun : s.halted = false) (hopen : s.encOpen = false) (ty : Byte)
    {appends : List Instr} {records : List Record}
    (happends : appends.map appendedRecord = records.map some)
    (hspace : (records.flatMap recordBytes).length ≤ 252) :
    ∃ t f, f = frame ty (records.flatMap recordBytes) ∧
      execAll ([.beginFrame ty] ++ appends ++ [.sealFrame]) s = .next t ∧
      t.lastResponse = some ⟨.ok, BitVec.ofNat 32 f.length, 0, f⟩ ∧ t.halted = false ∧
      t.rxOut = s.rxOut := by
  obtain ⟨u, hu, hbegin⟩ := State.Builds.beginFrame hrun hopen ty
  obtain ⟨v, hv, hbuilt⟩ := hbegin.appends happends hspace
  rw [List.nil_append] at hbuilt
  obtain ⟨hrun', hopen', hcursor, hheader, htype, harea, hdelivered⟩ := hbuilt
  obtain ⟨t, f, hf, ht, hresponse, hrun'', hout⟩ :=
    exec_sealFrame_frame hrun' hopen' (by omega) hheader
  rw [htype, hcursor, harea] at hf
  refine ⟨t, f, hf, ?_, hresponse, hrun'', hout.trans hdelivered⟩
  rw [List.append_assoc, List.singleton_append, execAll_cons hu, execAll_append hv, execAll_cons ht,
    execAll]

/-- Settles O21: the sequence builds the frame of the records appended, and they are records of the
format, so the decoder reads them back. -/
theorem appendedRecordsRoundTrip : Obligations.AppendedRecordsRoundTrip := by
  intro s ty appends records hrun hopen happends hspace
  have hwf : ∀ r ∈ records, recordWf r = true := by
    intro r hr
    have hmem : some r ∈ appends.map appendedRecord := happends ▸ List.mem_map_of_mem hr
    obtain ⟨i, -, hi⟩ := List.mem_map.1 hmem
    exact (appends_of_appendedRecord hi).2
  obtain ⟨t, f, rfl, ht, hresponse, hrun', hout⟩ := execAll_build hrun hopen ty happends hspace
  obtain ⟨u, hu, -, hdelivered⟩ := (receives_rxmsg _).delivers_records hrun' hwf (by omega)
  exact ⟨t, u, _, ht, hresponse, rfl, hu, hdelivered.trans (by rw [hout])⟩

/-! ### The sequences BUILDRC and BUILDCFG (R121) -/

/-- The record of an integer (R95). -/
def intRecord (id : Byte) (v : Word32) : Record := ⟨id, BitVec.ofNat 8 (intSize v), v⟩

/-- The record area of an RC frame is that of its five records. -/
theorem rcRecords_eq (th ro a1 a2 : Chan) (t : Word32) :
    rcRecords th ro a1 a2 t =
      [intRecord 1 (th.setWidth 32), intRecord 0 (ro.setWidth 32), intRecord 3 (a1.setWidth 32),
        intRecord 4 (a2.setWidth 32), ⟨100, 4, t⟩].flatMap recordBytes := by
  simp only [List.flatMap_cons, List.flatMap_nil, intRecord, recordBytes_irec, rcRecords,
    List.append_assoc, List.append_nil]
  rfl

/-- The record area of a Config frame is that of its three records. -/
theorem cfgRecords_eq (p i d : Word32) :
    cfgRecords p i d = ([⟨1, 4, p⟩, ⟨2, 4, i⟩, ⟨3, 4, d⟩] : List Record).flatMap recordBytes := rfl

theorem intSize_le_four (v : Word32) : intSize v ≤ 4 := by
  obtain h | h | h := intSize_cases v <;> omega

theorem rcRecords_length_le (th ro a1 a2 : Chan) (t : Word32) : (rcRecords th ro a1 a2 t).length ≤ 252 := by
  have hth := intSize_le_four (th.setWidth 32)
  have hro := intSize_le_four (ro.setWidth 32)
  have ha1 := intSize_le_four (a1.setWidth 32)
  have ha2 := intSize_le_four (a2.setWidth 32)
  simp only [rcRecords, List.length_append, irec_length, trec_length]
  omega

theorem cfgRecords_length (p i d : Word32) : (cfgRecords p i d).length = 18 := rfl

/-- Settles O19: each sequence is a build of the records that the builder's frame is made of. -/
theorem buildSequencesMatchTheBuilders : Obligations.BuildSequencesMatchTheBuilders := by
  intro s t hrun hopen
  constructor
  · have hspace := rcRecords_length_le s.throttle s.roll s.aux1 s.aux2 t
    rw [rcRecords_eq] at hspace
    obtain ⟨u, f, hf, hu, hresponse, -, -⟩ := execAll_build hrun hopen Config.ftRc
      (appends := [.appi 1 (s.throttle.setWidth 32), .appi 0 (s.roll.setWidth 32),
        .appi 3 (s.aux1.setWidth 32), .appi 4 (s.aux2.setWidth 32), .appt t]) rfl hspace
    rw [← rcRecords_eq] at hf
    exact ⟨u, _, hu, exec_brc_running hrun t, by rw [hresponse, hf]; rfl,
      by rw [State.lastResponse_answered]; rfl⟩
  · obtain ⟨u, f, hf, hu, hresponse, -, -⟩ := execAll_build hrun hopen Config.ftCfg
      (appends := [.appf 1 s.cfgP, .appf 2 s.cfgI, .appf 3 s.cfgD])
      (records := [⟨1, 4, s.cfgP⟩, ⟨2, 4, s.cfgI⟩, ⟨3, 4, s.cfgD⟩]) rfl
      ((cfgRecords_length ..).trans_le (by decide))
    rw [← cfgRecords_eq] at hf
    exact ⟨u, _, hu, exec_bcfg_running hrun, by rw [hresponse, hf]; rfl,
      by rw [State.lastResponse_answered]; rfl⟩

/-! ### The frames of BRC and BCFG come back (R166) -/

/-- The size rule gives 2 to a channel that one byte does not hold (R95, R181). -/
theorem intRecord_channel (id : Byte) {c : Chan} (h : 0xFF < c.toNat) :
    intRecord id (c.setWidth 32) = ⟨id, 2, c.setWidth 32⟩ := by
  have hc := c.isLt
  have hwide : (c.setWidth 32).toNat = c.toNat := BitVec.toNat_setWidth_of_le (by decide)
  have hsize : intSize (c.setWidth 32) = 2 := by
    rw [intSize, hwide, if_neg (by omega), if_pos (by omega)]
  rw [intRecord, hsize]
  rfl

/-- A frame of records of the format that an operation returns comes back from the decoder. -/
theorem returned_frame_round_trip {s : State} {i : Instr} {d0 : Word32} {ty : Byte}
    {records : List Record} (hrun : s.halted = false)
    (hexec : exec i s = .next (s.answered .host .ok d0 0 (frame ty (records.flatMap recordBytes))))
    (hwf : ∀ r ∈ records, recordWf r = true) (harea : (records.flatMap recordBytes).length ≤ 254) :
    ∃ u v f, exec i s = .next u ∧ u.lastResponse.map Response.frame = some f ∧
      exec (.rxmsg f) u = .next v ∧ v.rxOut = s.rxOut ++ [.frame ty records] := by
  obtain ⟨v, hv, -, hout⟩ := (receives_rxmsg _).delivers_records
    (s := s.answered .host .ok d0 0 (frame ty (records.flatMap recordBytes))) hrun hwf harea
  exact ⟨_, v, _, hexec, by rw [State.lastResponse_answered]; rfl, hv, hout⟩

/-- Settles O36: both frames are made of records of the format; by R37 those of the channels have size 2.
-/
theorem builderFramesRoundTrip : Obligations.BuilderFramesRoundTrip := by
  intro s hrun hinv
  obtain ⟨hth, hro, ha1, ha2⟩ := State.channels_gt_one_byte hinv
  constructor
  · intro t
    have hexec := exec_brc_running hrun t
    have hspace := rcRecords_length_le s.throttle s.roll s.aux1 s.aux2 t
    rw [State.rcFrame, encRC, rcRecords_eq] at hexec
    rw [rcRecords_eq] at hspace
    rw [← intRecord_channel 1 hth, ← intRecord_channel 0 hro, ← intRecord_channel 3 ha1,
      ← intRecord_channel 4 ha2]
    refine returned_frame_round_trip hrun hexec ?_ (by omega)
    simp only [List.forall_mem_cons]
    exact ⟨recordWf_intSize .., recordWf_intSize .., recordWf_intSize .., recordWf_intSize ..,
      recordWf_four .., nofun⟩
  · have hexec := exec_bcfg_running hrun
    rw [State.cfgFrame, encCFG, cfgRecords_eq] at hexec
    refine returned_frame_round_trip hrun hexec ?_ ((cfgRecords_length ..).trans_le (by decide))
    simp only [List.forall_mem_cons]
    exact ⟨recordWf_four .., recordWf_four .., recordWf_four .., nofun⟩

end Sys2Proof.Machine
end

section
/-! PROOFS. What an operation can do: the effects of the 48 rows in one list, and what follows of it for
responses, faults, `tx_out` and the owners of the state (10_state.md R33, R38, 20_memory.md R60, R72,
R73). -/

namespace Sys2Proof.Machine

/-! ### The ranges of R37 under the operations of the input state machine -/

theorem State.channelInv_iff (s : State) :
    s.channelInv = true ↔
      (1000 ≤ s.throttle.toNat ∧ s.throttle.toNat ≤ 2000) ∧
      (1000 ≤ s.roll.toNat ∧ s.roll.toNat ≤ 2000) ∧
      (s.aux1 = 1000 ∨ s.aux1 = 2000) ∧ (s.aux2 = 1000 ∨ s.aux2 = 2000) ∧
      s.speedLimit.toNat ≤ 500 ∧ s.tickCnt.toNat ≤ 49 ∧
      (s.auto = true → s.aux2 = 2000 ∧ s.throttle = neutralMinus s.speedLimit) := by
  simp only [State.channelInv, Bool.and_eq_true, Bool.or_eq_true, Bool.not_eq_true', decide_eq_true_eq,
    and_assoc, ← Bool.not_eq_true, imp_iff_not_or]

/-- A channel value at most 500 away from neutral. -/
def InRange (value : Chan) : Prop := 1000 ≤ value.toNat ∧ value.toNat ≤ 2000

theorem inRange_neutralMinus {limit : BitVec 9} (h : limit.toNat ≤ 500) :
    InRange (neutralMinus limit) := by
  obtain ⟨⟨h1, h2⟩, -⟩ := neutral_deflection_bounds h
  exact ⟨h1, by omega⟩

theorem inRange_neutralPlus {limit : BitVec 9} (h : limit.toNat ≤ 500) :
    InRange (neutralPlus limit) := by
  obtain ⟨-, h1, h2⟩ := neutral_deflection_bounds h
  exact ⟨by omega, h2⟩

theorem inRange_neutral : InRange 1500 := by
  unfold InRange
  decide

theorem State.channelInv_limit {s : State} (h : s.channelInv = true) : s.speedLimit.toNat ≤ 500 := by
  obtain ⟨-, -, -, -, hlimit, -⟩ := s.channelInv_iff.1 h
  exact hlimit

theorem State.channelInv_throttleKey {s : State} {value : Chan} (hvalue : InRange value)
    (h : s.channelInv = true) : (s.throttleKey value).channelInv = true := by
  obtain ⟨-, hkey⟩ | ⟨hauto, hkey⟩ := s.throttleKey_cases value <;> rw [hkey]
  · exact h
  · obtain ⟨-, hro, ha1, ha2, hlimit, htick, -⟩ := s.channelInv_iff.1 h
    exact (State.channelInv_iff _).2 ⟨hvalue, hro, ha1, ha2, hlimit, htick, by simp [hauto]⟩

theorem State.channelInv_roll {s : State} {value : Chan} (hvalue : InRange value)
    (h : s.channelInv = true) : { s with roll := value }.channelInv = true := by
  obtain ⟨hth, -, ha1, ha2, hlimit, htick, hauto⟩ := s.channelInv_iff.1 h
  exact (State.channelInv_iff _).2 ⟨hth, hvalue, ha1, ha2, hlimit, htick, hauto⟩

theorem State.channelInv_aux1 {s : State} {value : Chan} (hvalue : value = 1000 ∨ value = 2000)
    (h : s.channelInv = true) : { s with aux1 := value }.channelInv = true := by
  obtain ⟨hth, hro, -, ha2, hlimit, htick, hauto⟩ := s.channelInv_iff.1 h
  exact (State.channelInv_iff _).2 ⟨hth, hro, hvalue, ha2, hlimit, htick, hauto⟩

theorem State.channelInv_pressAux2 {s : State} (h : s.channelInv = true) :
    s.pressAux2.channelInv = true := by
  obtain ⟨hth, hro, ha1, -, hlimit, htick, -⟩ := s.channelInv_iff.1 h
  obtain ⟨-, hpress⟩ | ⟨-, -, hpress⟩ | ⟨-, hauto, -, hpress⟩ | ⟨-, hauto, -, hpress⟩ :=
    s.pressAux2_cases <;> rw [hpress]
  · exact h
  · exact h
  · exact (State.channelInv_iff _).2 ⟨hth, hro, ha1, .inl rfl, hlimit, htick, by simp [hauto]⟩
  · exact (State.channelInv_iff _).2 ⟨hth, hro, ha1, .inr rfl, hlimit, htick, by simp [hauto]⟩

theorem State.channelInv_pressAuto {s : State} (h : s.channelInv = true) :
    s.pressAuto.channelInv = true := by
  obtain ⟨-, hro, ha1, -, hlimit, htick, -⟩ := s.channelInv_iff.1 h
  obtain ⟨-, hpress⟩ | ⟨-, -, hpress⟩ | ⟨-, -, hpress⟩ := s.pressAuto_cases <;> rw [hpress]
  · exact h
  · exact (State.channelInv_iff _).2 ⟨inRange_neutral, hro, ha1, .inl rfl, hlimit, htick, nofun⟩
  · exact (State.channelInv_iff _).2
      ⟨inRange_neutralMinus hlimit, hro, ha1, .inr rfl, hlimit, htick, fun _ => ⟨rfl, rfl⟩⟩

theorem State.channelInv_setSpeedLimit {s : State} {limit : BitVec 9} (hnew : limit.toNat ≤ 500)
    (h : s.channelInv = true) : (s.setSpeedLimit limit).channelInv = true := by
  obtain ⟨hth, hro, ha1, ha2, -, htick, hkept⟩ := s.channelInv_iff.1 h
  obtain ⟨hauto, hset⟩ | ⟨hauto, hset⟩ := s.setSpeedLimit_cases limit <;> rw [hset]
  · obtain ⟨haux2, -⟩ := hkept hauto
    exact (State.channelInv_iff _).2
      ⟨inRange_neutralMinus hnew, hro, ha1, ha2, hnew, htick, fun _ => ⟨haux2, rfl⟩⟩
  · exact (State.channelInv_iff _).2 ⟨hth, hro, ha1, ha2, hnew, htick, by simp [hauto]⟩

/-! ### The effects -/

/-- `s` with the registers of the input state machine as they are in `u`. -/
def State.withInputRegs (s u : State) : State :=
  { s with
    throttle := u.throttle
    roll := u.roll
    aux1 := u.aux1
    aux2 := u.aux2
    speedLimit := u.speedLimit
    auto := u.auto
    heldAuto := u.heldAuto
    heldAux2 := u.heldAux2 }

/-- What the operation `i` can leave of the state `s`, apart from its response. -/
inductive Effect (s : State) : Instr → State → Prop
  /-- A read, an error outcome or a refusal that changes no state, the answer of a halted block. -/
  | unchanged (i : Instr) : Effect s i s
  /-- `BEGIN` with a builder open (R130). -/
  | reentrant (ty : Byte) (hrun : s.halted = false) (hopen : s.encOpen = true) :
    Effect s (.beginFrame ty) { s with fReentrant := true }
  /-- An append or `SEAL` with none open (R131, R135). -/
  | notOpen {i : Instr} (hi : (appendedRecord i).isSome = true ∨ i = .sealFrame)
      (hrun : s.halted = false) (hopen : s.encOpen = false) :
    Effect s i { s with fNotOpen := true }
  /-- `BEGIN` (R130). -/
  | opened (ty : Byte) :
    Effect s (.beginFrame ty)
      { s with eb := s.eb.writeBytes 0 [Config.stx, 0x00, ty], wcur := 3, encOpen := true }
  /-- An append that fits (R131). -/
  | appended {i : Instr} {r : Record} (hi : appendedRecord i = some r) (hopen : s.encOpen = true)
      (hspace : s.wcur.toNat + (recordBytes r).length ≤ 255) :
    Effect s i
      { s with
        eb := s.eb.writeBytes s.wcur.toNat (recordBytes r)
        wcur := BitVec.ofNat 8 (s.wcur.toNat + (recordBytes r).length) }
  /-- An append that does not fit (R262). -/
  | overflowed {i : Instr} {r : Record} (hi : appendedRecord i = some r) :
    Effect s i { s with encOpen := false, wcur := 0 }
  /-- `SEAL` (R135). -/
  | closed : Effect s .sealFrame { s with eb := s.sealWrites.eb, encOpen := false, wcur := 0 }
  /-- A message that decodes (R150). -/
  | delivered {i : Instr} (hi : isReceiveOp i = true) {bytes : List Byte} {ty : Byte}
      {records : List Record}
      (hmessage : decodeMessage (byteAt bytes) bytes.length = .ok (ty, records)) :
    Effect s i
      { s.loadRx bytes with
        rxOk := true, rxCause := none, rxFtype := ty, rxOut := s.rxOut ++ [.frame ty records] }
  /-- A message that does not (R150). -/
  | dropped {i : Instr} (hi : isReceiveOp i = true) {bytes : List Byte} {c : Cause}
      (hmessage : decodeMessage (byteAt bytes) bytes.length = .error c) :
    Effect s i
      { s.loadRx bytes with
        rxOk := false, rxCause := some c, rxFtype := 0, rxOut := s.rxOut ++ [.dropped c] }
  /-- A key or `SETSPD`: the registers of the input state machine, within their ranges (R37, R38). -/
  | input {i : Instr} (hi : isInputOp i = true) (u : State)
      (hranges : s.channelInv = true → (s.withInputRegs u).channelInv = true) :
    Effect s i (s.withInputRegs u)
  /-- `TMRSTART` (R220). -/
  | started : Effect s .tmrstart { s with run := true, tickCnt := 0 }
  /-- `TMRCANCEL` (R221). -/
  | cancelled : Effect s .tmrcancel { s with run := false, tickCnt := 0 }
  /-- `PAUSE` (R222). -/
  | paused : Effect s .pause { s with paused := true }
  /-- `RESUME` (R223). -/
  | resumed : Effect s .resume { s with paused := false }
  /-- `CONNECT` (R224). -/
  | connected : Effect s .connect { s with connected := true }
  /-- `DISCONNECT` (R225). -/
  | disconnected : Effect s .disconnect { s with connected := false }
  /-- A pulse between two ticks (R226). -/
  | counted (now : Word32) (ready : Bool) (htimer : s.run = true) (hcount : s.tickCnt.toNat ≠ 49) :
    Effect s (.mspulse now ready) { s with tickCnt := s.tickCnt + 1 }
  /-- A tick that sends nothing (R227). -/
  | ticked (now : Word32) (ready : Bool) : Effect s (.mspulse now ready) { s with tickCnt := 0 }
  /-- A tick that sends (R227). -/
  | tickedAndSent (now : Word32) (hrun : s.halted = false) (hconn : s.connected = true)
      (hpaused : s.paused = false) (htimer : s.run = true) (hcount : s.tickCnt.toNat = 49) :
    Effect s (.mspulse now true)
      { s with
        tickCnt := 0
        txOut := s.txOut ++ [encRC s.throttle s.roll s.aux1 s.aux2 now] }
  /-- `SETP` (R230). -/
  | storedP (v : Word32) : Effect s (.setp v) { s with cfgP := v }
  /-- `SETI` (R231). -/
  | storedI (v : Word32) : Effect s (.seti v) { s with cfgI := v }
  /-- `SETD` (R232). -/
  | storedD (v : Word32) : Effect s (.setd v) { s with cfgD := v }
  /-- `SENDCFG` (R233). -/
  | sent (hrun : s.halted = false) (hconn : s.connected = true) :
    Effect s (.sendcfg true) { s with txOut := s.txOut ++ [encCFG s.cfgP s.cfgI s.cfgD] }

/-- `d1` and the frame are empty unless the status is `OK` (R113). -/
def Response.Bare (r : Response) : Prop := r.st ≠ .ok → r.d1 = 0 ∧ r.frame = []

theorem bare_okResponse (d0 d1 : Word32) (f : List Byte) : (okResponse d0 d1 f).Bare :=
  fun hst => absurd rfl hst

theorem bare_errorResponse (st : Status) (d0 : Word32) : (errorResponse st d0).Bare :=
  fun _ => ⟨rfl, rfl⟩

/-- The operation completes: one of the effects, then its response (R15). -/
def Completes (i : Instr) (s : State) : Prop :=
  ∃ u r, exec i s = .next (u.answer (issuerOf i) r) ∧ Effect s i u ∧ r.Bare

theorem Completes.of_ok {i : Instr} {s u : State} {d0 d1 : Word32} {f : List Byte}
    (hu : Effect s i u) (h : exec i s = .next (u.answer (issuerOf i) (okResponse d0 d1 f))) :
    Completes i s := ⟨u, _, h, hu, bare_okResponse d0 d1 f⟩

theorem Completes.of_error {i : Instr} {s u : State} {st : Status} {d0 : Word32}
    (hu : Effect s i u) (h : exec i s = .next (u.answer (issuerOf i) (errorResponse st d0))) :
    Completes i s := ⟨u, _, h, hu, bare_errorResponse st d0⟩

/-! ### Every row has one of the effects -/

theorem completes_halted {i : Instr} {s : State} (hhalt : s.halted = true) (hi : ∀ r, i ≠ .rdreg r) :
    Completes i s := .of_error (.unchanged i) (exec_halted hhalt hi)

theorem completes_beginFrame {s : State} (hrun : s.halted = false) (ty : Byte) :
    Completes (.beginFrame ty) s := by
  cases hopen : s.encOpen
  · exact .of_ok (.opened ty) (exec_beginFrame_closed hrun hopen ty)
  · exact .of_error (.reentrant ty hrun hopen) (exec_beginFrame_open hrun hopen ty)

theorem completes_append {i : Instr} {r : Record} {s : State} (hi : appendedRecord i = some r)
    (hrun : s.halted = false) : Completes i s := by
  obtain ⟨hissuer, -, hexec⟩ := appendedRecord_spec hi
  rcases s.append_cases (recordBytes r) with ⟨hopen, happ⟩ | ⟨-, -, happ⟩ | ⟨hopen, hspace, happ⟩
  case inl =>
    rw [State.raiseFault_eq, ← hissuer] at happ
    exact .of_error (.notOpen (.inl (by simp [hi])) hrun hopen) ((hexec s hrun).trans (congrArg _ happ))
  case inr.inl =>
    rw [State.raiseOverflow_eq, ← hissuer] at happ
    exact .of_error (.overflowed hi) ((hexec s hrun).trans (congrArg _ happ))
  case inr.inr =>
    rw [← hissuer] at happ
    exact .of_ok (.appended hi hopen hspace) ((hexec s hrun).trans (congrArg _ happ))

theorem completes_sealFrame {s : State} (hrun : s.halted = false) : Completes .sealFrame s := by
  cases hopen : s.encOpen
  · exact .of_error (.notOpen (.inr rfl) hrun hopen) (exec_sealFrame_closed hrun hopen)
  · exact .of_ok .closed (exec_sealFrame_open hrun hopen)

theorem completes_dhdr {s : State} (hrun : s.halted = false) : Completes .dhdr s := by
  obtain ⟨-, h⟩ := dhdrReportsTheHeader
  obtain ⟨hshort, hstx, hlength, hgood⟩ := h s hrun
  by_cases hlen : s.rxLen.toNat < 3
  · exact .of_error (.unchanged _) (hshort hlen)
  have hlen' := Nat.le_of_not_lt hlen
  by_cases h0 : s.rxByte 0 = 0x02
  · by_cases h1 : s.rxByte 1 = 0
    · exact .of_error (.unchanged _) (hlength hlen' h0 h1)
    · exact .of_ok (.unchanged _) (hgood hlen' h0 h1)
  · exact .of_error (.unchanged _) (hstx hlen' h0)

theorem completes_vchk {s : State} (hrun : s.halted = false) : Completes .vchk s := by
  by_cases hsound : SoundMessage s.rxByte s.rxLen.toNat
  · exact .of_ok (.unchanged _) (exec_vchk_sound hrun hsound)
  · exact .of_ok (.unchanged _) (exec_vchk_unsound hrun hsound)

theorem completes_dtlv {s : State} (hrun : s.halted = false) (offset : Word32) :
    Completes (.dtlv offset) s := by
  cases hread : s.readRecord offset.toNat with
  | error c => exact .of_error (.unchanged _) (exec_dtlv_error hrun hread)
  | ok r => exact .of_ok (.unchanged _) (exec_dtlv_ok hrun hread)

/-- A row by which a message arrives runs the receive body on some bytes. -/
theorem exec_receive_running {i : Instr} {s : State} (hi : isReceiveOp i = true)
    (hrun : s.halted = false) :
    issuerOf i = .transport ∧ ∃ bytes, exec i s = .next (s.receive bytes) := by
  cases i
  case rxmsg | rc | config | rcThrottle | rcRoll | rcAux1 | rcAux2 | rcTimestamp | cfgP | cfgI | cfgD =>
    exact ⟨rfl, _, unlessHalted_running hrun .transport fun s => s.receive _⟩
  all_goals cases hi

theorem completes_receive {i : Instr} {s : State} (hi : isReceiveOp i = true)
    (hrun : s.halted = false) : Completes i s := by
  obtain ⟨hissuer, bytes, hexec⟩ := exec_receive_running hi hrun
  rcases s.receive_cases bytes with ⟨ty, records, hmessage, hreceive⟩ | ⟨c, hmessage, hreceive⟩ <;>
    rw [hreceive, ← hissuer] at hexec
  · exact .of_ok (.delivered hi hmessage) hexec
  · exact .of_ok (.dropped hi hmessage) hexec

/-- A key or `SETSPD` that writes its registers within their ranges and answers `MODE`. -/
theorem Completes.of_input {i : Instr} {s u : State} (hissuer : issuerOf i = .host)
    (hi : isInputOp i = true) (h : exec i s = .next u.answerMode) (hu : u = s.withInputRegs u)
    (hranges : s.channelInv = true → u.channelInv = true) : Completes i s := by
  rw [State.answerMode_eq, ← hissuer] at h
  rw [hu] at hranges
  have heffect : Effect s i u := hu ▸ .input hi u hranges
  exact .of_ok heffect h

theorem State.throttleKey_withInputRegs (s : State) (value : Chan) :
    s.throttleKey value = s.withInputRegs (s.throttleKey value) := by
  obtain ⟨-, h⟩ | ⟨-, h⟩ := s.throttleKey_cases value <;> rw [h] <;> rfl

theorem State.pressAux2_withInputRegs (s : State) : s.pressAux2 = s.withInputRegs s.pressAux2 := by
  obtain ⟨-, h⟩ | ⟨-, -, h⟩ | ⟨-, -, -, h⟩ | ⟨-, -, -, h⟩ := s.pressAux2_cases <;> rw [h] <;> rfl

theorem State.pressAuto_withInputRegs (s : State) : s.pressAuto = s.withInputRegs s.pressAuto := by
  obtain ⟨-, h⟩ | ⟨-, -, h⟩ | ⟨-, -, h⟩ := s.pressAuto_cases <;> rw [h] <;> rfl

theorem State.setSpeedLimit_withInputRegs (s : State) (limit : BitVec 9) :
    s.setSpeedLimit limit = s.withInputRegs (s.setSpeedLimit limit) := by
  obtain ⟨-, h⟩ | ⟨-, h⟩ := s.setSpeedLimit_cases limit <;> rw [h] <;> rfl

theorem completes_setspd {s : State} (hrun : s.halted = false) (v : Word32) :
    Completes (.setspd v) s := by
  by_cases hv : 500 < v.toNat
  · exact .of_error (.unchanged _) (exec_setspd_refused hrun hv)
  · have hlimit : (v.setWidth 9).toNat ≤ 500 := by
      rw [BitVec.toNat_setWidth]
      omega
    have hexec := exec_setspd_running hrun v
    rw [if_neg hv] at hexec
    exact .of_input rfl rfl hexec (s.setSpeedLimit_withInputRegs _) (State.channelInv_setSpeedLimit hlimit)

theorem completes_input {i : Instr} {s : State} (hi : isInputOp i = true) (hrun : s.halted = false) :
    Completes i s := by
  cases i
  case keydnThrUp =>
    exact .of_input rfl rfl (exec_keydnThrUp_running hrun) (s.throttleKey_withInputRegs _)
      fun h => State.channelInv_throttleKey (inRange_neutralMinus (State.channelInv_limit h)) h
  case keydnThrDown =>
    exact .of_input rfl rfl (exec_keydnThrDown_running hrun) (s.throttleKey_withInputRegs _)
      fun h => State.channelInv_throttleKey (inRange_neutralPlus (State.channelInv_limit h)) h
  case keyupThrUp =>
    exact .of_input rfl rfl (exec_keyupThrUp_running hrun) (s.throttleKey_withInputRegs _)
      (State.channelInv_throttleKey inRange_neutral)
  case keyupThrDown =>
    exact .of_input rfl rfl (exec_keyupThrDown_running hrun) (s.throttleKey_withInputRegs _)
      (State.channelInv_throttleKey inRange_neutral)
  case keydnRollLeft =>
    exact .of_input rfl rfl (exec_keydnRollLeft_running hrun) rfl
      fun h => State.channelInv_roll (inRange_neutralPlus (State.channelInv_limit h)) h
  case keydnRollRight =>
    exact .of_input rfl rfl (exec_keydnRollRight_running hrun) rfl
      fun h => State.channelInv_roll (inRange_neutralMinus (State.channelInv_limit h)) h
  case keyupRollLeft =>
    exact .of_input rfl rfl (exec_keyupRollLeft_running hrun) rfl (State.channelInv_roll inRange_neutral)
  case keyupRollRight =>
    exact .of_input rfl rfl (exec_keyupRollRight_running hrun) rfl (State.channelInv_roll inRange_neutral)
  case keydnAux1 =>
    exact .of_input rfl rfl (exec_keydnAux1_running hrun) rfl (State.channelInv_aux1 (.inr rfl))
  case keyupAux1 =>
    exact .of_input rfl rfl (exec_keyupAux1_running hrun) rfl (State.channelInv_aux1 (.inl rfl))
  case keydnAux2 =>
    exact .of_input rfl rfl (exec_keydnAux2_running hrun) s.pressAux2_withInputRegs
      State.channelInv_pressAux2
  case keydnAuto =>
    exact .of_input rfl rfl (exec_keydnAuto_running hrun) s.pressAuto_withInputRegs
      State.channelInv_pressAuto
  case keyupAux2 => exact .of_input rfl rfl (exec_keyupAux2_running hrun) rfl id
  case keyupAuto => exact .of_input rfl rfl (exec_keyupAuto_running hrun) rfl id
  case setspd v => exact completes_setspd hrun v
  all_goals cases hi

theorem completes_tmrstart {s : State} (hrun : s.halted = false) : Completes .tmrstart s := by
  cases htimer : s.run
  · exact .of_ok .started (exec_tmrstart_stopped hrun htimer)
  · exact .of_ok (.unchanged _) (exec_tmrstart_running hrun htimer)

theorem completes_mspulse {s : State} (hrun : s.halted = false) (now : Word32) (ready : Bool) :
    Completes (.mspulse now ready) s := by
  have hexec := exec_mspulse_running hrun now ready
  cases htimer : s.run
  · rw [State.pulse_stopped htimer] at hexec
    exact .of_ok (.unchanged _) hexec
  by_cases hcount : s.tickCnt.toNat = 49
  · by_cases hsend : s.connected = true ∧ s.paused = false ∧ ready = true
    · obtain ⟨hconn, hpaused, rfl⟩ := hsend
      exact .of_ok (.tickedAndSent now hrun hconn hpaused htimer hcount)
        (exec_mspulse_sends hrun htimer hcount hconn hpaused now)
    · rw [State.pulse_ticks htimer hcount, State.tick_silent (s := { s with tickCnt := 0 }) hsend] at hexec
      exact .of_ok (.ticked now ready) hexec
  · exact .of_ok (.counted now ready htimer hcount) (exec_mspulse_counts hrun htimer hcount now ready)

theorem completes_sendcfg {s : State} (hrun : s.halted = false) (ready : Bool) :
    Completes (.sendcfg ready) s := by
  cases hconn : s.connected
  · exact .of_error (.unchanged _) (exec_sendcfg_disconnected hrun hconn ready)
  cases ready
  · exact .of_error (.unchanged _) (exec_sendcfg_dropped hrun hconn)
  · exact .of_ok (.sent hrun hconn) (exec_sendcfg_sent hrun hconn)

/-- Every operation completes, in every state, with one of the effects (R15, R260). -/
theorem completes (i : Instr) (s : State) : Completes i s := by
  by_cases hi : ∃ r, i = .rdreg r
  · obtain ⟨r, rfl⟩ := hi
    exact .of_ok (.unchanged _) (exec_rdreg r s)
  cases hrun : s.halted
  case true => exact completes_halted hrun (not_exists.1 hi)
  cases i
  case false.rdreg r => exact absurd ⟨r, rfl⟩ hi
  case false.beginFrame ty => exact completes_beginFrame hrun ty
  case false.appi | false.appf | false.appt => exact completes_append rfl hrun
  case false.sealFrame => exact completes_sealFrame hrun
  case false.dhdr => exact completes_dhdr hrun
  case false.vchk => exact completes_vchk hrun
  case false.dtlv offset => exact completes_dtlv hrun offset
  case false.brc t => exact .of_ok (.unchanged _) (exec_brc_running hrun t)
  case false.bcfg => exact .of_ok (.unchanged _) (exec_bcfg_running hrun)
  case false.tmrstart => exact completes_tmrstart hrun
  case false.tmrcancel => exact .of_ok .cancelled (exec_tmrcancel_running hrun)
  case false.pause => exact .of_ok .paused (exec_pause_running hrun)
  case false.resume => exact .of_ok .resumed (exec_resume_running hrun)
  case false.connect => exact .of_ok .connected (exec_connect_running hrun)
  case false.disconnect => exact .of_ok .disconnected (exec_disconnect_running hrun)
  case false.mspulse now ready => exact completes_mspulse hrun now ready
  case false.setp v => exact .of_ok (.storedP v) (exec_setp_running hrun v)
  case false.seti v => exact .of_ok (.storedI v) (exec_seti_running hrun v)
  case false.setd v => exact .of_ok (.storedD v) (exec_setd_running hrun v)
  case false.sendcfg ready => exact completes_sendcfg hrun ready
  case false.rxmsg | false.rc | false.config | false.rcThrottle | false.rcRoll | false.rcAux1
      | false.rcAux2 | false.rcTimestamp | false.cfgP | false.cfgI | false.cfgD =>
    exact completes_receive rfl hrun
  all_goals exact completes_input rfl hrun

/-- What an operation leaves is one of its effects and the response. -/
theorem exec_effect {i : Instr} {s t : State} (h : exec i s = .next t) :
    ∃ u r, t = u.answer (issuerOf i) r ∧ Effect s i u := by
  obtain ⟨u, r, hexec, hu, -⟩ := completes i s
  rw [hexec, Host.Outcome.next.injEq] at h
  exact ⟨u, r, h.symm, hu⟩

/-! ### Responses (R15, R260) -/

theorem Effect.answers_inputs {s u : State} {i : Instr} (h : Effect s i u) :
    u.answers = s.answers ∧ u.inputs = s.inputs := by
  cases h <;> exact ⟨rfl, rfl⟩

/-- Settles O10: an effect touches neither the responses nor what is presented, and one response follows
it. -/
theorem everyOperationAnswersOnce : Obligations.EveryOperationAnswersOnce := by
  intro i s
  obtain ⟨u, r, hexec, hu, hbare⟩ := completes i s
  obtain ⟨hanswers, hinputs⟩ := hu.answers_inputs
  exact ⟨_, r, hexec, by rw [State.answer_answers, hanswers], hinputs, hbare⟩

/-! ### Faults (R33, R267, R272) -/

theorem appendedRecord_isSome_iff {i : Instr} :
    (appendedRecord i).isSome = true ↔
      (∃ id v, i = .appi id v) ∨ (∃ id v, i = .appf id v) ∨ ∃ v, i = .appt v := by
  cases i <;> simp [appendedRecord]

/-- A fault bit of the state left was set before, or the operation is one that takes its fault. -/
theorem Effect.faults {s u : State} {i : Instr} (h : Effect s i u) :
    (u.fReentrant = s.fReentrant ∨ (s.halted = false ∧ s.encOpen = true ∧ ∃ ty, i = .beginFrame ty)) ∧
    (u.fNotOpen = s.fNotOpen ∨ (s.halted = false ∧ s.encOpen = false ∧
      ((appendedRecord i).isSome = true ∨ i = .sealFrame))) ∧
    u.fIllegal = s.fIllegal := by
  cases h
  case reentrant ty hrun hopen => exact ⟨.inr ⟨hrun, hopen, ty, rfl⟩, .inl rfl, rfl⟩
  case notOpen hrun hopen hi => exact ⟨.inl rfl, .inr ⟨hrun, hopen, hi⟩, rfl⟩
  all_goals exact ⟨.inl rfl, .inl rfl, rfl⟩

/-- No operation clears a fault bit. -/
theorem Effect.keeps_faults {s u : State} {i : Instr} (h : Effect s i u) :
    (s.fReentrant = true → u.fReentrant = true) ∧ (s.fNotOpen = true → u.fNotOpen = true) := by
  cases h
  case reentrant => exact ⟨fun _ => rfl, id⟩
  case notOpen => exact ⟨id, fun _ => rfl⟩
  all_goals exact ⟨id, id⟩

theorem exec_notOpen {i : Instr} {s t : State} (hi : (appendedRecord i).isSome = true ∨ i = .sealFrame)
    (hrun : s.halted = false) (hopen : s.encOpen = false) (h : exec i s = .next t) :
    t.fNotOpen = true := by
  rcases hi with hi | rfl
  · obtain ⟨r, hr⟩ := Option.isSome_iff_exists.1 hi
    obtain ⟨happend, -⟩ := appends_of_appendedRecord hr
    obtain ⟨hfault, -, -⟩ := happend s hrun
    rw [hfault hopen, Host.Outcome.next.injEq] at h
    exact h ▸ rfl
  · rw [exec_sealFrame_closed hrun hopen, Host.Outcome.next.injEq] at h
    exact h ▸ rfl

theorem exec_reentrant {ty : Byte} {s t : State} (hrun : s.halted = false) (hopen : s.encOpen = true)
    (h : exec (.beginFrame ty) s = .next t) : t.fReentrant = true := by
  rw [exec_beginFrame_open hrun hopen, Host.Outcome.next.injEq] at h
  exact h ▸ rfl

/-- Settles O12: a bit that is set was set before or by the operation that takes its fault, and that
operation sets it. -/
theorem onlyTheNamedOperationsFault : Obligations.OnlyTheNamedOperationsFault := by
  intro i s t h
  have hnames : ((∃ id v, i = .appi id v) ∨ (∃ id v, i = .appf id v) ∨ (∃ v, i = .appt v) ∨
      i = .sealFrame) ↔ ((appendedRecord i).isSome = true ∨ i = .sealFrame) := by
    rw [appendedRecord_isSome_iff, or_assoc, or_assoc]
  obtain ⟨u, r, ht, heffect⟩ := exec_effect h
  obtain ⟨hreentrant, hnotOpen, hillegal⟩ := heffect.faults
  obtain ⟨hkept1, hkept2⟩ := heffect.keeps_faults
  rw [hnames]
  subst ht
  refine ⟨⟨fun hset => ?_, ?_⟩, ⟨fun hset => ?_, ?_⟩, hillegal⟩
  · exact hreentrant.imp_left fun heq => heq.symm.trans hset
  · rintro (hset | ⟨hrun, hopen, ty, rfl⟩)
    · exact hkept1 hset
    · exact exec_reentrant hrun hopen h
  · exact hnotOpen.imp_left fun heq => heq.symm.trans hset
  · rintro (hset | ⟨hrun, hopen, hi⟩)
    · exact hkept2 hset
    · exact exec_notOpen hi hrun hopen h

/-! ### What is sent (R72, R227, R233) -/

/-- Settles O49: of the effects only a tick that sends and a `SENDCFG` that sends touch `tx_out`. -/
theorem onlyTickAndSendcfgSend : Obligations.OnlyTickAndSendcfgSend := by
  intro i s t h
  obtain ⟨u, r, rfl, heffect⟩ := exec_effect h
  cases heffect
  case tickedAndSent now hrun hconn hpaused htimer hcount =>
    exact .inr (.inl ⟨hrun, hconn, hpaused, htimer, hcount, now, rfl, rfl⟩)
  case sent hrun hconn => exact .inr (.inr ⟨hrun, hconn, rfl, rfl⟩)
  all_goals exact .inl rfl

/-! ### The owners of the state (R38, R60, R73) -/

theorem isEncoderOp_of_appendedRecord {i : Instr} (h : (appendedRecord i).isSome = true) :
    isEncoderOp i = true := by
  obtain ⟨_, _, rfl⟩ | ⟨_, _, rfl⟩ | ⟨_, rfl⟩ := appendedRecord_isSome_iff.1 h <;> rfl

theorem Effect.keeps_encoder {s u : State} {i : Instr} (h : Effect s i u) (hi : isEncoderOp i = false) :
    u.eb = s.eb ∧ u.encOpen = s.encOpen ∧ u.wcur = s.wcur := by
  cases h
  case opened | closed => cases hi
  case appended hr | overflowed hr =>
    rw [isEncoderOp_of_appendedRecord (by simp [hr])] at hi
    cases hi
  all_goals exact ⟨rfl, rfl, rfl⟩

theorem Effect.keeps_receiver {s u : State} {i : Instr} (h : Effect s i u)
    (hi : isReceiveOp i = false) :
    u.rx = s.rx ∧ u.rxLen = s.rxLen ∧ u.rxLoaded = s.rxLoaded ∧ u.rxOk = s.rxOk ∧
      u.rxCause = s.rxCause ∧ u.rxFtype = s.rxFtype ∧ u.rxOut = s.rxOut := by
  cases h
  case delivered hreceive | dropped hreceive => cases hi.symm.trans hreceive
  all_goals exact ⟨rfl, rfl, rfl, rfl, rfl, rfl, rfl⟩

theorem Effect.keeps_gains {s u : State} {i : Instr} (h : Effect s i u) :
    ((∀ v, i ≠ .setp v) → u.cfgP = s.cfgP) ∧ ((∀ v, i ≠ .seti v) → u.cfgI = s.cfgI) ∧
      ((∀ v, i ≠ .setd v) → u.cfgD = s.cfgD) := by
  cases h
  case storedP v => exact ⟨fun hi => absurd rfl (hi v), fun _ => rfl, fun _ => rfl⟩
  case storedI v => exact ⟨fun _ => rfl, fun hi => absurd rfl (hi v), fun _ => rfl⟩
  case storedD v => exact ⟨fun _ => rfl, fun _ => rfl, fun hi => absurd rfl (hi v)⟩
  all_goals exact ⟨fun _ => rfl, fun _ => rfl, fun _ => rfl⟩

theorem Effect.keeps_timer {s u : State} {i : Instr} (h : Effect s i u) (hstart : i ≠ .tmrstart)
    (hcancel : i ≠ .tmrcancel) :
    u.run = s.run ∧ ((∀ n b, i ≠ .mspulse n b) → u.tickCnt = s.tickCnt) := by
  cases h
  case started => exact absurd rfl hstart
  case cancelled => exact absurd rfl hcancel
  case counted now ready _ _ => exact ⟨rfl, fun hi => absurd rfl (hi now ready)⟩
  case ticked now ready => exact ⟨rfl, fun hi => absurd rfl (hi now ready)⟩
  case tickedAndSent now _ _ _ _ _ => exact ⟨rfl, fun hi => absurd rfl (hi now true)⟩
  all_goals exact ⟨rfl, fun _ => rfl⟩

theorem Effect.keeps_paused {s u : State} {i : Instr} (h : Effect s i u) (hpause : i ≠ .pause)
    (hresume : i ≠ .resume) : u.paused = s.paused := by
  cases h
  case paused => exact absurd rfl hpause
  case resumed => exact absurd rfl hresume
  all_goals rfl

theorem Effect.keeps_connected {s u : State} {i : Instr} (h : Effect s i u) (hconnect : i ≠ .connect)
    (hdisconnect : i ≠ .disconnect) : u.connected = s.connected := by
  cases h
  case connected => exact absurd rfl hconnect
  case disconnected => exact absurd rfl hdisconnect
  all_goals rfl

/-- Settles O53: unit by unit, an effect of another unit's operation leaves its registers alone. -/
theorem unitsWriteOnlyTheirOwnState : Obligations.UnitsWriteOnlyTheirOwnState := by
  intro i s t h
  refine ⟨fun hi => ?input, ?_⟩
  case input =>
    have hregs := exec_inputRegs hi h
    simpa only [State.inputRegs, Prod.mk.injEq] using hregs
  obtain ⟨u, r, rfl, heffect⟩ := exec_effect h
  obtain ⟨hp, hi, hd⟩ := heffect.keeps_gains
  refine ⟨heffect.keeps_encoder, heffect.keeps_receiver, hp, hi, hd, fun hstart hcancel => ?_,
    fun hstart hcancel => ?_, heffect.keeps_paused, heffect.keeps_connected⟩
  · obtain ⟨hrun, -⟩ := heffect.keeps_timer hstart hcancel
    exact hrun
  · obtain ⟨-, hcount⟩ := heffect.keeps_timer hstart hcancel
    exact hcount

/-! ### Reads (R68) -/

/-- The response of `DHDR` on a block that is not halted (R154). -/
def State.headerResponse (s : State) : Response :=
  if s.rxLen.toNat < 3 then errorResponse .decodeError 1
  else if s.rxByte 0 ≠ 0x02 then errorResponse .decodeError 2
  else if s.rxByte 1 = 0 then errorResponse .decodeError 1
  else okResponse ((s.rxByte 2).setWidth 32 ||| (s.rxByte 1).setWidth 32 <<< 8) 0 []

/-- The response of `DTLV` on a block that is not halted (R160). -/
def State.recordResponse (s : State) (offset : Nat) : Response :=
  match s.readRecord offset with
  | .error c => errorResponse .decodeError (c.code.setWidth 32)
  | .ok r => okResponse r.record.value (tlvWord r) []

/-- The operation only answers the host, the same whatever was answered before. -/
def OnlyAnswers (i : Instr) : Prop :=
  ∃ response : State → Response, (∀ s, exec i s = .next (s.answer .host (response s))) ∧
    ∀ s r, response (s.answer .host r) = response s

/-- A body that only answers, under the prologue of R270. -/
theorem OnlyAnswers.of_body {i : Instr} {body : State → State} (response : State → Response)
    (hexec : ∀ s, exec i s = unlessHalted .host s body)
    (hbody : ∀ s, body s = s.answer .host (response s))
    (hresponse : ∀ s r, response (s.answer .host r) = response s) : OnlyAnswers i := by
  refine ⟨fun s => if s.halted then errorResponse .fault s.faultWord else response s, fun s => ?_,
    fun s r => ?_⟩
  · cases hrun : s.halted
    · simp [hexec, hbody, hrun]
    · simp [hexec, hrun]
  · show (if s.halted then _ else response (s.answer .host r)) = _
    rw [hresponse]
    rfl

theorem onlyAnswers_of_isReadOp {i : Instr} (hi : isReadOp i = true) : OnlyAnswers i := by
  cases i
  case dhdr =>
    refine .of_body State.headerResponse (fun _ => rfl) (fun s => ?_) fun _ _ => rfl
    unfold State.headerResponse
    simp only [apply_ite (s.answer .host)]
    rfl
  case vchk =>
    exact .of_body (fun s => okResponse (if s.checksumValid then 1 else 0) 0 []) (fun _ => rfl)
      (fun _ => rfl) fun _ _ => rfl
  case dtlv offset =>
    refine .of_body (·.recordResponse offset.toNat) (fun _ => rfl) (fun s => ?_) fun _ _ => rfl
    unfold State.recordResponse
    cases s.readRecord offset.toNat <;> rfl
  case brc t =>
    exact .of_body (fun s => okResponse (BitVec.ofNat 32 (s.rcFrame t).length) 0 (s.rcFrame t))
      (fun _ => rfl) (fun _ => rfl) fun _ _ => rfl
  case bcfg =>
    exact .of_body (fun s => okResponse (BitVec.ofNat 32 s.cfgFrame.length) 0 s.cfgFrame)
      (fun _ => rfl) (fun _ => rfl) fun _ _ => rfl
  case rdreg r =>
    exact ⟨fun s => okResponse (s.readReg r) 0 [], fun _ => rfl, fun _ _ => by cases r <;> rfl⟩
  all_goals cases hi

/-- Settles O54: the answer of a read does not depend on what was answered before, so the second is the
first. -/
theorem readsHaveNoSideEffect : Obligations.ReadsHaveNoSideEffect := by
  intro i s hi
  obtain ⟨response, hexec, hresponse⟩ := onlyAnswers_of_isReadOp hi
  refine ⟨response s, hexec s, (hexec (s.answer .host (response s))).trans ?_⟩
  rw [hresponse, State.answer, State.answer, List.append_assoc]
  rfl

end Sys2Proof.Machine
end

section
/-! PROOFS. Steps, reset and the invariants (10_state.md sections 6, 7, 10, 12, 20_memory.md section 4).
-/

namespace Sys2Proof.Machine

/-! ### Codes, the step, reset (R11, R28, R113, R264, R300) -/

/-- Settles O13: each code by its table. -/
theorem statusAndCauseCodes : Obligations.StatusAndCauseCodes := by
  unfold Obligations.StatusAndCauseCodes
  decide

theorem step_of_decode {s : State} {st : Stimulus} {rest : List Event} {i : Instr}
    (hin : s.inputs = .op st :: rest) (hdecode : decode st = .ok i) :
    step s = exec i { s with inputs := rest } := by
  simp only [step, fetch, hin, hdecode]

theorem step_idle {s : State} (hin : s.inputs = []) : step s = .next s := by
  simp only [step, fetch, hin]

theorem step_reset {s : State} {rest : List Event} (hin : s.inputs = .reset :: rest) :
    step s = .next { s with inputs := rest }.resetBlock := by
  simp only [step, fetch, hin]

/-- Settles O6: the next event decodes, or there is none. -/
theorem stepRunsTheDecodedInstruction : Obligations.StepRunsTheDecodedInstruction :=
  ⟨fun _ _ _ _ hin hdecode => step_of_decode hin hdecode, fun _ hin => step_idle hin⟩

/-- Settles O7: the state a reset leaves is the reset state but for the lists, and a step that leaves the
halt is a reset. -/
theorem resetRestoresEveryRegister : Obligations.ResetRestoresEveryRegister := by
  refine ⟨fun s rest hin => ⟨_, step_reset hin, ?_, rfl, rfl, rfl, rfl, rfl, rfl⟩,
    fun s t hhalt hstep hrun => ?_⟩
  · rintro r (rfl | rfl)
    · simp [State.resetBlock, State.reset, State.mode, State.halted, State.ebByte, State.rxByte]
    · simp [State.reset, State.mode, State.halted, State.ebByte, State.rxByte]
  · by_contra hnone
    have hin : s.inputs.head? ≠ some .reset := by
      intro hhead
      obtain ⟨rest, hrest⟩ := List.head?_eq_some_iff.1 hhead
      exact hnone ⟨rest, hrest⟩
    rw [step_keeps_halted hhalt hin hstep] at hrun
    cases hrun

/-! ### The invariants by unit -/

/-- An open builder (R29, R61, R69): the cursor behind the header, the header byte, a record area that
the walk accepts, every byte below the cursor written. -/
structure State.OpenBuilder (s : State) : Prop where
  cursor : 3 ≤ s.wcur.toNat
  header : s.ebByte 0 = 0x02
  records : ∃ records, recordsOf s.ebByte s.wcur.toNat = .ok records
  written : ∀ k < s.wcur.toNat, (s.eb.get k).isSome = true

/-- The encoder's part of the invariants (R29, R30, R61, R69). -/
structure State.EncoderInv (s : State) : Prop where
  ofOpen : s.encOpen = true → s.OpenBuilder
  ofClosed : s.encOpen = false → s.wcur = 0
  canonical : s.eb.wf = true
  bounded : ∀ c ∈ s.eb, c.1 < 256

/-- The receiver's part of the invariants (R31, R32, R69). -/
structure State.ReceiverInv (s : State) : Prop where
  status : s.rxInv = true
  canonical : s.rx.wf = true
  bounded : ∀ c ∈ s.rx, c.1 < min s.rxLen.toNat 258
  written : ∀ k < min s.rxLen.toNat 258, (s.rx.get k).isSome = true

theorem State.builderInv_iff (s : State) :
    s.builderInv = true ↔
      (s.encOpen = true → s.ebByte 0 = 0x02 ∧
        ∃ records, recordsOf s.ebByte s.wcur.toNat = .ok records) := by
  unfold State.builderInv
  cases s.encOpen
  · simp
  · cases recordsOf s.ebByte s.wcur.toNat <;> simp

theorem State.cursorInv_iff (s : State) :
    s.cursorInv = true ↔
      (s.encOpen = true → 3 ≤ s.wcur.toNat) ∧ (s.encOpen = false → s.wcur = 0) := by
  unfold State.cursorInv
  cases s.encOpen <;> simp

/-- The invariants are those of the channels, the timer, the encoder and the receiver. -/
theorem State.inv_iff (s : State) :
    s.Inv = true ↔ s.channelInv = true ∧ s.timerInv = true ∧ s.EncoderInv ∧ s.ReceiverInv := by
  simp only [State.Inv, Bool.and_eq_true, State.cursorInv_iff, State.builderInv_iff, State.memoryInv,
    State.writtenInv, List.all_eq_true, decide_eq_true_eq, List.mem_range, Bool.or_eq_true,
    Bool.not_eq_true', ← Bool.not_eq_true, ← imp_iff_not_or, and_assoc]
  constructor
  · rintro ⟨hch, htimer, hcursor, hclosed, hbuilder, hrx, hebwf, hrxwf, heb, hrxb, hebw, hrxw⟩
    refine ⟨hch, htimer, ⟨fun hopen => ?_, fun hopen => hclosed (by simp [hopen]), hebwf, heb⟩,
      ⟨hrx, hrxwf, hrxb, hrxw⟩⟩
    obtain ⟨hheader, hrecords⟩ := hbuilder hopen
    exact ⟨hcursor hopen, hheader, hrecords, hebw hopen⟩
  · rintro ⟨hch, htimer, ⟨hopened, hclosed, hebwf, heb⟩, ⟨hrx, hrxwf, hrxb, hrxw⟩⟩
    exact ⟨hch, htimer, fun hopen => (hopened hopen).cursor, fun hopen => hclosed (by simpa using hopen),
      fun hopen => ⟨(hopened hopen).header, (hopened hopen).records⟩, hrx, hebwf, hrxwf, heb, hrxb,
      fun hopen => (hopened hopen).written, hrxw⟩

/-! ### What each effect keeps -/

theorem State.channelInv_of_inputRegs {s u : State} (h : s.channelInv = true)
    (hregs : u.inputRegs = s.inputRegs) (htick : u.tickCnt.toNat ≤ 49) : u.channelInv = true := by
  simp only [State.inputRegs, Prod.mk.injEq] at hregs
  obtain ⟨hth, hro, ha1, ha2, hlimit, hauto, -, -⟩ := hregs
  obtain ⟨kth, kro, ka1, ka2, klimit, -, kauto⟩ := s.channelInv_iff.1 h
  rw [State.channelInv_iff, hth, hro, ha1, ha2, hlimit, hauto]
  exact ⟨kth, kro, ka1, ka2, klimit, htick, kauto⟩

theorem Effect.keeps_channelInv {s u : State} {i : Instr} (h : Effect s i u)
    (hs : s.channelInv = true) : u.channelInv = true := by
  cases h
  case input u hranges hi => exact hranges hs
  case started | cancelled | ticked | tickedAndSent =>
    exact State.channelInv_of_inputRegs hs rfl (Nat.zero_le _)
  case counted htimer hcount =>
    obtain ⟨-, -, -, -, -, htick, -⟩ := s.channelInv_iff.1 hs
    refine State.channelInv_of_inputRegs hs rfl ?_
    show (s.tickCnt + 1).toNat ≤ 49
    bv_omega
  all_goals exact hs

theorem State.timerInv_iff (s : State) : s.timerInv = true ↔ (s.run = false → s.tickCnt = 0) := by
  cases h : s.run <;> simp [State.timerInv, h]

theorem Effect.keeps_timerInv {s u : State} {i : Instr} (h : Effect s i u)
    (hs : s.timerInv = true) : u.timerInv = true := by
  rw [State.timerInv_iff] at hs ⊢
  cases h
  case started | cancelled | ticked | tickedAndSent => exact fun _ => rfl
  case counted htimer _ => exact fun hstop => absurd (htimer.symm.trans hstop) (by decide)
  all_goals exact hs

/-! ### The encoder -/

theorem Memory.mem_writeBytes {bs : List Byte} {m : Memory} {a : Nat} {c : Host.Cell}
    (h : c ∈ m.writeBytes a bs) : c ∈ m ∨ (a ≤ c.1 ∧ c.1 < a + bs.length) := by
  induction bs generalizing m a with
  | nil => exact .inl h
  | cons b bs ih =>
    rw [List.length_cons]
    rcases ih h with hmem | ⟨hlo, hhi⟩
    · rcases Memory.mem_write hmem with rfl | hmem
      · exact .inr ⟨le_rfl, by omega⟩
      · exact .inl hmem
    · exact .inr ⟨by omega, by omega⟩

/-- A byte that was written stays written, and a byte sequence is written where it is put. -/
theorem Memory.isSome_get_writeBytes {bs : List Byte} {m : Memory} {a k : Nat}
    (h : (m.get k).isSome = true ∨ (a ≤ k ∧ k < a + bs.length)) :
    ((m.writeBytes a bs).get k).isSome = true := by
  rw [Memory.get_writeBytes]
  split
  · next hin => simp; omega
  · next hout => exact h.resolve_right hout

theorem State.OpenBuilder.begin (s : State) (ty : Byte) :
    { s with
      eb := s.eb.writeBytes 0 [Config.stx, 0x00, ty]
      wcur := 3
      encOpen := true }.OpenBuilder where
  cursor := le_rfl
  header := ebByte_writeBytes s 0 [Config.stx, 0x00, ty] 0
  records := ⟨[], rfl⟩
  written k hk := Memory.isSome_get_writeBytes (.inr ⟨Nat.zero_le k, by simpa using hk⟩)

/-- An append of a record of the format that fits keeps an open builder. -/
theorem State.OpenBuilder.append {s : State} {r : Record} (h : s.OpenBuilder) (hwf : recordWf r = true)
    (hspace : s.wcur.toNat + (recordBytes r).length ≤ 255) :
    { s with
      eb := s.eb.writeBytes s.wcur.toNat (recordBytes r)
      wcur := BitVec.ofNat 8 (s.wcur.toNat + (recordBytes r).length) }.OpenBuilder := by
  obtain ⟨hcursor, hheader, ⟨records, hrecords⟩, hwritten⟩ := h
  set t : State := { s with eb := s.eb.writeBytes s.wcur.toNat (recordBytes r) }
  have hwcur : (BitVec.ofNat 8 (s.wcur.toNat + (recordBytes r).length)).toNat =
      s.wcur.toNat + (recordBytes r).length := by
    rw [BitVec.toNat_ofNat, Nat.mod_eq_of_lt (by omega)]
  have hkept (k : Nat) (hk : k < s.wcur.toNat) : t.ebByte k = s.ebByte k :=
    (ebByte_writeBytes s s.wcur.toNat (recordBytes r) k).trans (if_neg (by omega))
  have hbefore : slice t.ebByte 3 s.wcur.toNat = slice s.ebByte 3 s.wcur.toNat :=
    slice_congr fun k _ hk => hkept k hk
  have hrecord : slice t.ebByte s.wcur.toNat (s.wcur.toNat + (recordBytes r).length) = recordBytes r :=
    slice_eq_of_getElem? fun k b hb => ebByte_writeBytes_of_getElem? s s.wcur.toNat hb
  obtain ⟨hwfs, hslice⟩ := (recordsOf_eq_ok_iff hcursor).1 hrecords
  constructor
  case cursor =>
    show 3 ≤ (BitVec.ofNat 8 _).toNat
    rw [hwcur]
    omega
  case header => exact (hkept 0 (by omega)).trans hheader
  case records =>
    refine ⟨records ++ [r], ?_⟩
    show recordsOf t.ebByte (BitVec.ofNat 8 _).toNat = _
    rw [hwcur, recordsOf_eq_ok_iff (by omega), List.forall_mem_append, List.forall_mem_singleton,
      ← slice_append hcursor (by omega), hbefore, hrecord, hslice, List.flatMap_append,
      List.flatMap_singleton]
    exact ⟨⟨hwfs, hwf⟩, rfl⟩
  case written =>
    intro k hk
    apply Memory.isSome_get_writeBytes
    by_cases hlow : k < s.wcur.toNat
    · exact .inl (hwritten k hlow)
    · exact .inr ⟨by omega, hwcur ▸ hk⟩

/-- With no builder open the encoder's invariants are those of `EB` as a byte space. -/
theorem State.EncoderInv.closed {s : State} (hopen : s.encOpen = false) (hwcur : s.wcur = 0)
    (hwf : s.eb.wf = true) (hbounded : ∀ c ∈ s.eb, c.1 < 256) : s.EncoderInv :=
  ⟨fun h => absurd (hopen.symm.trans h) (by decide), fun _ => hwcur, hwf, hbounded⟩

/-- With a builder open the cursor is not bound to 0. -/
theorem State.EncoderInv.opened {s : State} (hopen : s.encOpen = true) (hbuilder : s.OpenBuilder)
    (hwf : s.eb.wf = true) (hbounded : ∀ c ∈ s.eb, c.1 < 256) : s.EncoderInv :=
  ⟨fun _ => hbuilder, fun h => absurd (hopen.symm.trans h) (by decide), hwf, hbounded⟩

/-- The encoder's invariants speak of `EB` and `ENCSTAT` only. -/
theorem State.EncoderInv.congr {s u : State} (h : s.EncoderInv) (heb : u.eb = s.eb)
    (hopen : u.encOpen = s.encOpen) (hwcur : u.wcur = s.wcur) : u.EncoderInv := by
  obtain ⟨hbuilder, hclosed, hwf, hbounded⟩ := h
  have hbyte : u.ebByte = s.ebByte := by
    funext k
    rw [State.ebByte, State.ebByte, heb]
  refine ⟨fun h => ?_, fun h => hwcur.trans (hclosed (hopen.symm.trans h)), heb ▸ hwf, heb ▸ hbounded⟩
  obtain ⟨hcursor, hheader, hrecords, hwritten⟩ := hbuilder (hopen.symm.trans h)
  constructor
  · rwa [hwcur]
  · rwa [hbyte]
  · rwa [hbyte, hwcur]
  · rwa [heb, hwcur]

theorem Memory.bounded_writeBytes {bs : List Byte} {m : Memory} {a : Nat}
    (hm : ∀ c ∈ m, c.1 < 256) (ha : a + bs.length ≤ 256) : ∀ c ∈ m.writeBytes a bs, c.1 < 256 := by
  intro c hc
  rcases Memory.mem_writeBytes hc with hmem | ⟨-, hlt⟩
  · exact hm c hmem
  · omega

theorem State.bounded_sealWrites {s : State} (hs : ∀ c ∈ s.eb, c.1 < 256) :
    ∀ c ∈ s.sealWrites.eb, c.1 < 256 := by
  intro c hc
  have hwcur := s.wcur.isLt
  rw [State.sealWrites_eb] at hc
  rcases Memory.mem_write hc with rfl | hc
  · exact hwcur
  · rcases Memory.mem_write hc with rfl | hc
    · show 1 < 256
      decide
    · exact hs c hc

theorem Effect.keeps_encoderInv {s u : State} {i : Instr} (h : Effect s i u) (hs : s.EncoderInv) :
    u.EncoderInv := by
  obtain ⟨hbuilder, hclosed, hwf, hbounded⟩ := id hs
  cases h
  case opened ty =>
    exact .opened rfl (.begin s ty) (Memory.wf_writeBytes _ _ _ hwf)
      (Memory.bounded_writeBytes hbounded (by simp))
  case appended r hopen hspace hi =>
    obtain ⟨-, hrecord⟩ := appends_of_appendedRecord hi
    exact .opened hopen (.append (hbuilder hopen) hrecord hspace) (Memory.wf_writeBytes _ _ _ hwf)
      (Memory.bounded_writeBytes hbounded (by omega))
  case overflowed => exact .closed rfl rfl hwf hbounded
  case closed =>
    refine .closed rfl rfl ?_ (State.bounded_sealWrites hbounded)
    show s.sealWrites.eb.wf = true
    rw [State.sealWrites_eb]
    exact Memory.wf_write _ _ _ (Memory.wf_write _ _ _ hwf)
  all_goals exact hs.congr rfl rfl rfl

/-! ### The receiver -/

theorem Memory.mem_ofBytes {bs : List Byte} {a : Nat} {c : Host.Cell} (h : c ∈ Memory.ofBytes a bs) :
    c.1 < a + bs.length := by
  induction bs generalizing a with
  | nil => cases h
  | cons b bs ih =>
    rw [List.length_cons]
    rcases List.mem_cons.1 h with rfl | hmem
    · show a < _
      omega
    · have := ih hmem
      omega

theorem State.rxInv_iff (s : State) :
    s.rxInv = true ↔ s.rxLen.toNat ≤ 259 ∧
      (s.rxLoaded = false → s.rxLen = 0 ∧ s.rxOk = false ∧ s.rxCause = none ∧ s.rxFtype = 0) ∧
      (s.rxLoaded = true →
        (∀ ty records, s.decodeRx = .ok (ty, records) →
          s.rxOk = true ∧ s.rxCause = none ∧ s.rxFtype = ty) ∧
        ∀ c, s.decodeRx = .error c → s.rxOk = false ∧ s.rxCause = some c ∧ s.rxFtype = 0) := by
  unfold State.rxInv
  cases s.rxLoaded
  · simp [and_assoc]
  · rcases s.decodeRx with c | ⟨ty, records⟩ <;> simp [and_assoc]

/-- A loaded message whose decode `RXSTAT` tells meets the receiver's invariants. -/
theorem State.ReceiverInv.of_load {s u : State} {bytes : List Byte} (hrx : u.rx = (s.loadRx bytes).rx)
    (hlen : u.rxLen = (s.loadRx bytes).rxLen) (hstatus : u.rxInv = true) : u.ReceiverInv := by
  have hlen' : u.rxLen.toNat = min bytes.length 259 := by rw [hlen, rxLen_loadRx]
  have hrx' : u.rx = Memory.ofBytes 0 (bytes.take 258) := hrx
  refine ⟨hstatus, hrx' ▸ Memory.wf_ofBytes _ 0, fun c hc => ?_, fun k hk => ?_⟩
  · have hlt := Memory.mem_ofBytes (hrx' ▸ hc)
    rw [List.length_take] at hlt
    omega
  · rw [hrx', Memory.get_ofBytes, if_pos (Nat.zero_le k)]
    simp
    omega

/-- The receiver's invariants speak of `RX`, `RXLEN` and `RXSTAT` only. -/
theorem State.ReceiverInv.congr {s u : State} (h : s.ReceiverInv) (hrx : u.rx = s.rx)
    (hlen : u.rxLen = s.rxLen) (hstatus : u.rxInv = s.rxInv) : u.ReceiverInv := by
  obtain ⟨hs, hwf, hbounded, hwritten⟩ := h
  exact ⟨hstatus.trans hs, hrx ▸ hwf, by rwa [hrx, hlen], by rwa [hrx, hlen]⟩

theorem Effect.keeps_receiverInv {s u : State} {i : Instr} (h : Effect s i u)
    (hs : s.ReceiverInv) : u.ReceiverInv := by
  have hload (bytes : List Byte) : (s.loadRx bytes).rxLen.toNat ≤ 259 := by
    rw [rxLen_loadRx]
    omega
  cases h
  case delivered bytes ty records hmessage hi =>
    refine .of_load (s := s) (bytes := bytes) rfl rfl
      ((State.rxInv_iff _).2 ⟨hload bytes, nofun, fun _ => ?_⟩)
    rw [← decodeRx_loadRx s] at hmessage
    refine ⟨fun ty' records' hdecode => ?_, fun c hdecode => ?_⟩ <;> cases hmessage.symm.trans hdecode
    exact ⟨rfl, rfl, rfl⟩
  case dropped bytes c hmessage hi =>
    refine .of_load (s := s) (bytes := bytes) rfl rfl
      ((State.rxInv_iff _).2 ⟨hload bytes, nofun, fun _ => ?_⟩)
    rw [← decodeRx_loadRx s] at hmessage
    refine ⟨fun ty' records' hdecode => ?_, fun c' hdecode => ?_⟩ <;> cases hmessage.symm.trans hdecode
    exact ⟨rfl, rfl, rfl⟩
  all_goals exact hs.congr rfl rfl rfl

/-! ### Every step -/

theorem Effect.keeps_inv {s u : State} {i : Instr} (h : Effect s i u) (hs : s.Inv = true) :
    u.Inv = true := by
  obtain ⟨hchannel, htimer, hencoder, hreceiver⟩ := s.inv_iff.1 hs
  exact u.inv_iff.2 ⟨h.keeps_channelInv hchannel, h.keeps_timerInv htimer,
    h.keeps_encoderInv hencoder, h.keeps_receiverInv hreceiver⟩

/-- Settles O8: by evaluation. -/
theorem invariantHoldsAtReset : Obligations.InvariantHoldsAtReset := by
  unfold Obligations.InvariantHoldsAtReset
  decide

/-- Settles O9: the invariants do not speak of the lists of what is presented, answered and pushed, nor
of the faults; an operation keeps them by its effect. -/
theorem stepKeepsTheInvariant : Obligations.StepKeepsTheInvariant := by
  intro s t hs h
  obtain ⟨-, rfl⟩ | ⟨rest, -, rfl⟩ | ⟨st, rest, i, -, -, hexec⟩ | ⟨st, rest, e, -, -, rfl⟩ := step_cases h
  case inl => exact hs
  case inr.inl => exact invariantHoldsAtReset
  case inr.inr.inl =>
    obtain ⟨u, r, rfl, heffect⟩ := exec_effect hexec
    exact heffect.keeps_inv hs
  case inr.inr.inr => exact hs

/-! ### A safe builder's frame (R136) -/

/-- Settles O20: by the invariants the record area of an open builder is one that the walk accepts, so
its frame is one of the format. -/
theorem sealedFramesAreAccepted : Obligations.SealedFramesAreAccepted := by
  intro s hinv hrun hopen
  obtain ⟨-, -, hencoder, -⟩ := s.inv_iff.1 hinv
  obtain ⟨hcursor, hheader, ⟨records, hrecords⟩, -⟩ := hencoder.ofOpen hopen
  obtain ⟨hwf, hslice⟩ := (recordsOf_eq_ok_iff hcursor).1 hrecords
  obtain ⟨t, f, hf, ht, hresponse, hrun', -⟩ := exec_sealFrame_frame hrun hopen hcursor hheader
  have hspace := slice_length s.ebByte 3 s.wcur.toNat
  have hwcur := s.wcur.isLt
  rw [hslice] at hf hspace
  subst hf
  obtain ⟨u, hu, hok, hout⟩ := (receives_rxmsg _).delivers_records hrun' hwf (by omega)
  exact ⟨t, u, _, records, ht, hresponse, hu, hok, hout⟩

end Sys2Proof.Machine
end

section
/-! PROOFS. The pseudo-operation `DECODE` (30_encoding.md R121 (c), 41_frame_decoder.md R162) in every
state: where it stops. -/

namespace Sys2Proof.Machine

/-! ### The loop where a record cannot be read -/

/-- The walk that fails: at this record, or behind it. -/
theorem walk_succ_eq_error {byte : Nat → Byte} {last fuel o : Nat} {c : Cause}
    (h : walk byte last (fuel + 1) o = .error c) :
    o < last ∧ (tlv byte last o = .error c ∨
      ∃ r, tlv byte last o = .ok r ∧ walk byte last fuel r.next = .error c) := by
  by_cases ho : o < last
  · rw [walk_succ _ _ _ _ ho] at h
    cases hr : tlv byte last o with
    | error c' =>
      simp only [hr, Except.error.injEq] at h
      exact ⟨ho, .inl (by rw [h])⟩
    | ok r =>
      cases hrest : walk byte last fuel r.next with
      | error c' =>
        simp only [hr, hrest, Except.error.injEq] at h
        exact ⟨ho, .inr ⟨r, rfl, by rw [hrest, h]⟩⟩
      | ok rest => simp [hr, hrest] at h
  · rw [walk_end _ _ _ _ (by omega)] at h
    cases h

/-- One turn of the loop of `DECODE` where the record reader fails: `DTLV` answers its cause, and the
loop ends. -/
theorem decodeLoop_of_tlv_error {s : State} {o : Nat} {c : Cause} (fuel : Nat)
    (hrun : s.halted = false) (hgood : structural s.rxByte s.rxLen.toNat = none)
    (ho : o < endOf s.rxByte) (hr : tlv s.rxByte (endOf s.rxByte) o = .error c) :
    (decodeLoop (endOf s.rxByte) (fuel + 1) o s).2 = [errorResponse .decodeError (c.code.setWidth 32)] := by
  have hend := endOf_lt s.rxByte
  have hread : s.readRecord (BitVec.ofNat 32 o).toNat = .error c := by
    rw [BitVec.toNat_ofNat, Nat.mod_eq_of_lt (by omega), s.readRecord_good_structure _ hgood, hr]
  have hissue : issue (.dtlv (BitVec.ofNat 32 o)) s =
      some (s.answer .host (errorResponse .decodeError (c.code.setWidth 32)),
        errorResponse .decodeError (c.code.setWidth 32)) :=
    issue_eq (exec_dtlv_error hrun hread)
  rw [decodeLoop_succ fuel (by omega) hissue]
  exact congrArg Prod.snd (if_neg nofun)

/-- Where the walk fails, the loop, with fuel for one `DTLV` per three bytes, reads the records before
and ends with the walk's cause. -/
theorem decodeLoop_of_walk_error {s : State} {fuel loopFuel o : Nat} {c : Cause}
    (hrun : s.halted = false) (hgood : structural s.rxByte s.rxLen.toNat = none)
    (hloop : endOf s.rxByte - o ≤ 3 * loopFuel)
    (hwalk : walk s.rxByte (endOf s.rxByte) fuel o = .error c) :
    ∃ good : List Response, (∀ r ∈ good, r.st = .ok) ∧
      (decodeLoop (endOf s.rxByte) loopFuel o s).2 =
        good ++ [errorResponse .decodeError (c.code.setWidth 32)] := by
  induction fuel generalizing s loopFuel o with
  | zero => cases hwalk
  | succ fuel ih =>
    obtain ⟨hlt, hrest⟩ := walk_succ_eq_error hwalk
    obtain ⟨f, rfl⟩ : ∃ f, loopFuel = f + 1 := ⟨loopFuel - 1, by omega⟩
    obtain hr | ⟨r, hr, hrest⟩ := hrest
    · exact ⟨[], by simp, decodeLoop_of_tlv_error f hrun hgood hlt hr⟩
    · obtain ⟨hnext, -⟩ := tlv_bounds hr
      obtain ⟨good, hok, hgoods⟩ := ih (s := s.answer .host (okResponse r.record.value (tlvWord r) []))
        (loopFuel := f) hrun hgood (show endOf s.rxByte - r.next ≤ 3 * f by omega) hrest
      refine ⟨okResponse r.record.value (tlvWord r) [] :: good, List.forall_mem_cons.2 ⟨rfl, hok⟩, ?_⟩
      rw [decodeLoop_of_tlv f hrun hgood hr]
      exact congrArg _ hgoods

/-! ### The sequence, by how it ends -/

/-- A read is issued with its response, and leaves nothing else. -/
theorem issue_of_isReadOp {i : Instr} (hi : isReadOp i = true) (s : State) :
    ∃ r, issue i s = some (s.answer .host r, r) := by
  obtain ⟨response, hexec, -⟩ := onlyAnswers_of_isReadOp hi
  exact ⟨response s, issue_eq (hexec s)⟩

/-- `DECODE` leaves the state as it was, but for its responses. -/
theorem decodeMessageOps_frame (s : State) :
    decodeMessageOps s =
      ({ s with answers := s.answers ++ (decodeMessageOps s).2.map (Answer.mk .host) },
        (decodeMessageOps s).2) := by
  obtain ⟨header, hheader⟩ := issue_of_isReadOp (i := .dhdr) rfl s
  obtain ⟨check, hcheck⟩ := issue_of_isReadOp (i := .vchk) rfl (s.answer .host header)
  simp only [decodeMessageOps, hheader, hcheck]
  split
  · split
    · simp [decodeLoop_frame, State.answer]
    · simp [State.answer]
  · simp [State.answer]

/-- A header that is not accepted ends the sequence. -/
theorem decodeMessageOps_of_dhdr_error {s : State} {st : Status} {d0 : Word32} (hst : st ≠ .ok)
    (h : exec .dhdr s = .next (s.answered .host st d0 0 [])) :
    (decodeMessageOps s).2 = [⟨st, d0, 0, []⟩] := by
  have hissue : issue .dhdr s = some (s.answer .host ⟨st, d0, 0, []⟩, ⟨st, d0, 0, []⟩) := issue_eq h
  simp only [decodeMessageOps, hissue, if_neg hst]

/-- The response of `DHDR` to a header that it accepts (R154). -/
def State.headerOk (s : State) : Response :=
  ⟨.ok, BitVec.ofNat 32 ((s.rxByte 2).toNat + 256 * (s.rxByte 1).toNat), 0, []⟩

/-- The loop runs to the checksum index that the header gives. -/
theorem lengthOfResponse_headerOk (s : State) : 2 + lengthOfResponse s.headerOk = endOf s.rxByte := by
  have h1 := (s.rxByte 1).isLt
  have h2 := (s.rxByte 2).isLt
  rw [lengthOfResponse, State.headerOk, BitVec.extractLsb'_toNat, BitVec.toNat_ofNat,
    Nat.shiftRight_eq_div_pow, endOf]
  omega

section Header

variable {s : State} (hrun : s.halted = false) (hlen : 3 ≤ s.rxLen.toNat)
  (hstx : s.rxByte 0 = 0x02) (hlength : s.rxByte 1 ≠ 0)
include hrun hlen hstx hlength

theorem issue_dhdr_headerOk : issue .dhdr s = some (s.answer .host s.headerOk, s.headerOk) :=
  issue_eq (exec_dhdr_header hrun hlen hstx hlength)

/-- A `VCHK` that gives 0 ends the sequence (log 21). -/
theorem decodeMessageOps_of_unsound (hunsound : ¬SoundMessage s.rxByte s.rxLen.toNat) :
    (decodeMessageOps s).2 = [s.headerOk, ⟨.ok, 0, 0, []⟩] := by
  have hcheck : issue .vchk (s.answer .host s.headerOk) =
      some ((s.answer .host s.headerOk).answer .host ⟨.ok, 0, 0, []⟩, ⟨.ok, 0, 0, []⟩) :=
    issue_eq (exec_vchk_unsound (s := s.answer .host s.headerOk) hrun hunsound)
  simp only [decodeMessageOps, issue_dhdr_headerOk hrun hlen hstx hlength, hcheck]
  rfl

/-- Behind a `VCHK` that gives 1 the sequence goes on with the loop over the record area. -/
theorem decodeMessageOps_of_sound (hsound : SoundMessage s.rxByte s.rxLen.toNat) :
    (decodeMessageOps s).2 = s.headerOk :: ⟨.ok, 1, 0, []⟩ ::
      (decodeLoop (endOf s.rxByte) 85 3
        ((s.answer .host s.headerOk).answer .host ⟨.ok, 1, 0, []⟩)).2 := by
  have hcheck : issue .vchk (s.answer .host s.headerOk) =
      some ((s.answer .host s.headerOk).answer .host ⟨.ok, 1, 0, []⟩, ⟨.ok, 1, 0, []⟩) :=
    issue_eq (exec_vchk_sound (s := s.answer .host s.headerOk) hrun hsound)
  rw [← lengthOfResponse_headerOk]
  simp only [decodeMessageOps, issue_dhdr_headerOk hrun hlen hstx hlength, hcheck]
  rfl

end Header

/-- The responses of the loop on a sound message: the records of the walk, or those before its first
error and that error. -/
theorem decodeLoop_of_sound {s : State} (hrun : s.halted = false)
    (hsound : SoundMessage s.rxByte s.rxLen.toNat) :
    (∀ records, recordsOf s.rxByte (endOf s.rxByte) = .ok records →
      (∀ r ∈ (decodeLoop (endOf s.rxByte) 85 3 s).2, r.st = .ok) ∧
        (decodeLoop (endOf s.rxByte) 85 3 s).2.map recordOfResponse = records) ∧
    ∀ c, recordsOf s.rxByte (endOf s.rxByte) = .error c → ∃ good : List Response,
      (∀ r ∈ good, r.st = .ok) ∧
        (decodeLoop (endOf s.rxByte) 85 3 s).2 = good ++ [⟨.decodeError, c.code.setWidth 32, 0, []⟩] := by
  obtain ⟨hgood, -⟩ := (soundMessage_iff ..).1 hsound
  obtain ⟨h4, -, -, hn⟩ := (structural_eq_none_iff ..).1 hgood
  have hend := endOf_lt s.rxByte
  have hstart : 3 ≤ endOf s.rxByte := by
    rw [endOf]
    omega
  refine ⟨fun records hrecords => ?_, fun c herror =>
    decodeLoop_of_walk_error hrun hgood (by omega) herror⟩
  have hcount := walk_length_le hrecords
  exact decodeLoop_of_walk hrun hgood hstart le_rfl (by omega) hrecords

/-- Settles O55: the three ways `DHDR` can refuse and the halt, then `VCHK`, then the loop. -/
theorem decodeStopsAtTheFirstError : Obligations.DecodeStopsAtTheFirstError := by
  intro s
  obtain ⟨-, hdhdr⟩ := dhdrReportsTheHeader
  refine ⟨(decodeMessageOps s).2, decodeMessageOps_frame s, fun hhalt => ?_, fun hrun hlen => ?_,
    fun hrun hlen hstx => ?_, fun hrun hlen hstx hlength => ?_, fun hrun hlen hstx hlength =>
    ⟨s.headerOk, rfl, decodeMessageOps_of_unsound hrun hlen hstx hlength, fun hsound => ?_⟩⟩
  · exact decodeMessageOps_of_dhdr_error nofun (exec_halted hhalt nofun)
  · obtain ⟨hshort, -⟩ := hdhdr s hrun
    exact decodeMessageOps_of_dhdr_error nofun (hshort hlen)
  · obtain ⟨-, hheader, -⟩ := hdhdr s hrun
    exact decodeMessageOps_of_dhdr_error nofun (hheader hlen hstx)
  · obtain ⟨-, -, hzero, -⟩ := hdhdr s hrun
    exact decodeMessageOps_of_dhdr_error nofun (hzero hlen hstx hlength)
  · exact ⟨_, decodeMessageOps_of_sound hrun hlen hstx hlength hsound,
      decodeLoop_of_sound (s := (s.answer .host s.headerOk).answer .host ⟨.ok, 1, 0, []⟩) hrun hsound⟩

end Sys2Proof.Machine
end
